-- ==== Sys2Proof/Word.lean ====
section
/-! DEFINITION. The widths the spec names: a byte of segments or enables (00_scope R9), the 16-bit result and
frame registers (10_state R25, R29), and the 32-bit command word (30_encoding R71). -/

namespace Sys2Proof

/-- SEG_W and EN_W (00_scope R9). -/
abbrev Byte := BitVec 8

/-- RES, SR_FRAME and DEV_CHAIN (10_state R25, R29, R34). -/
abbrev Half := BitVec 16

/-- A command word: format CMD, always 32 bits (30_encoding R71). -/
abbrev Word := BitVec 32

end Sys2Proof
end

