-- ==== Sys2Proof/Machine/Turn.lean ====
section
/-! DEFINITION. The agents of 00_scope R14, the internal steps of 30_encoding R80, and the turn: which transition
the one global order of steps (20_memory R61) takes next. -/

namespace Sys2Proof.Machine

/-- The four agents (00_scope R14). -/
inductive Agent where
  /-- The firmware main loop; it presents command-port words and reads RES. -/
  | host
  /-- The DisplayMultiplexer and ShiftRegisterBus engine. -/
  | seq
  /-- The ClockTimer interrupt handler. -/
  | timer
  /-- The environment: period events and the ends of dwell times. -/
  | env
  deriving DecidableEq, Repr, Inhabited

/-- The internal steps of 30_encoding R80; no decoder produces them. -/
inductive Internal where
  /-- TICK, TIMER (43_clock_timer R150). -/
  | tick
  /-- MUX_LOAD, SEQ (42_display_multiplexer R133). -/
  | muxLoad
  /-- MUX_SENT, SEQ (42_display_multiplexer R134). -/
  | muxSent
  /-- DWELL_DONE, ENV (42_display_multiplexer R135). -/
  | dwellDone
  /-- SR_LATCH_LO, SEQ (41_shift_register_bus R112). -/
  | srLatchLo
  /-- SR_DATA, SEQ (41_shift_register_bus R113). -/
  | srData
  /-- SR_CLK_HI, SEQ (41_shift_register_bus R114). -/
  | srClkHi
  /-- SR_CLK_LO, SEQ (41_shift_register_bus R115). -/
  | srClkLo
  /-- SR_LATCH_HI, SEQ (41_shift_register_bus R116). -/
  | srLatchHi
  deriving DecidableEq, Repr, Inhabited

/-- One move of one agent: a word on a port (30_encoding R70), the HOST's read of RES (60_exceptions R190), or an
internal step. A list of turns is one interleaving of the agents (DESIGN CHOICE, log entry 1). -/
inductive Turn where
  /-- HOST presents `w` on the command port. -/
  | host (w : Word)
  /-- HOST reads RES. -/
  | hostRead
  /-- ENV presents `w` on the timer port. -/
  | timerPort (w : Word)
  /-- The agent of `k` performs the internal step `k`. -/
  | internal (k : Internal)
  deriving DecidableEq, Repr, Inhabited

/-- The agent column of 30_encoding R80. -/
def Internal.agent (k : Internal) : Agent :=
  match k with
  | .tick => .timer
  | .dwellDone => .env
  | .muxLoad => .seq
  | .muxSent => .seq
  | .srLatchLo => .seq
  | .srData => .seq
  | .srClkHi => .seq
  | .srClkLo => .seq
  | .srLatchHi => .seq

/-- The agent that makes a turn (00_scope R14, 30_encoding R70). -/
def Turn.agent (t : Turn) : Agent :=
  match t with
  | .host _ => .host
  | .hostRead => .host
  | .timerPort _ => .env
  | .internal k => k.agent

end Sys2Proof.Machine
end

