-- ==== Sys2Proof/Config.lean ====
section
/-! DEFINITION. What a build of the block fixes (00_scope R8, R9) and the values the spec leaves free. The
configuration is one record of constants; State holds it as a read-only field (10_state R39, log entry 6). -/

namespace Sys2Proof

/-- NEG_POLICY (00_scope R9; 92_eei_decisions D11): what RENDER does with a negative value. -/
inductive NegPolicy where
  /-- A negative value shows 0000. -/
  | clamp0
  /-- A negative value faults NEG_VALUE. -/
  | fault
  deriving DecidableEq, Repr

/-- The parameters of 00_scope R9 that are not sizes of a type. -/
structure Config where
  /-- SEG_TABLE (10_state R31). -/
  segTable : Vector Byte 10
  /-- The bits of the segments a to g, in that order (10_state R32; a parameter by 92_eei_decisions D3). -/
  segmentBits : Vector (Fin 8) 7
  /-- DP_BIT, the bit of the decimal point (10_state R32; 92_eei_decisions D5). -/
  dpBit : Fin 8
  /-- ENABLE_MASK (10_state R33). -/
  enableMask : Vector Byte 4
  /-- NEG_POLICY. -/
  negPolicy : NegPolicy
  /-- DIGIT_DWELL, OPEN: no rule reads it. -/
  digitDwell : Nat
  /-- RESET_DEBOUNCE, OPEN and the host's alone: no rule reads it. -/
  resetDebounce : Nat
  deriving DecidableEq, Repr

/-- TICK_PERIOD = 1 second (00_scope R9); no rule of the untimed model reads it (70_reset_and_hazards R220). -/
def Config.tickPeriodSeconds : Nat := 1

/-- FREE VALUE (log entry 8): the value of DIGIT_DWELL, OPEN in the spec. -/
opaque Config.openDigitDwell : Nat

/-- FREE VALUE (log entry 8): the value of RESET_DEBOUNCE, OPEN in the spec. -/
opaque Config.openResetDebounce : Nat

/-- FREE VALUE (log entry 9): DEV_CHAIN at power-on, "any value" (10_state R34). -/
opaque Config.powerOnChain : Half

/-- FREE VALUE (log entry 9): DEV_SEG_OUT at power-on, "any value" (10_state R35). -/
opaque Config.powerOnSegOut : Byte

/-- FREE VALUE (log entry 9): DEV_EN_OUT at power-on, "any value" (10_state R35). -/
opaque Config.powerOnEnOut : Byte

/-- FREE VALUE (log entry 2): the turn taken when no scripted turn is left, the n-th time this happens. The spec
admits every order of the agents' steps (60_exceptions R177). -/
opaque Config.freeTurn : Nat → Machine.Turn

/-- FREE VALUE (log entry 13): the bit SR_DATA presents when SR_CNT is above 15, which no run reaches; the index
15 - SR_CNT of 41_shift_register_bus R113 then names no bit. -/
opaque Config.freeFrameBit : Half → BitVec 5 → Bool

end Sys2Proof
end

