-- ==== Sys2Proof/Syntax.lean ====
section
/-! DEFINITION. The six commands of spec/opcode_table.json (30_encoding R72, R83), each with exactly the fields
its row gives. The internal steps of 30_encoding R80 have no command word and are `Machine.Internal`. -/

namespace Sys2Proof

/-- One constructor per row of the opcode table. Every value of every field is encodable (30_encoding R73 to R76). -/
inductive Instr where
  /-- ENC (30_encoding R73): DP is bit 4, DIGIT is bits 3:0. -/
  | enc (dp : BitVec 1) (digit : BitVec 4)
  /-- COMMIT (30_encoding R74): SEG is bits 15:8, EN is bits 7:0. -/
  | commit (seg en : Byte)
  /-- RENDER (30_encoding R75): UD is bit 27, DPI is bits 26:25, VALUE is bits 15:0. -/
  | render (ud : BitVec 1) (dpi : BitVec 2) (value : Half)
  /-- PERIOD (30_encoding R76), the one word of the timer port. -/
  | period
  /-- CLEAR (30_encoding R76). -/
  | clear
  /-- READT (30_encoding R76). -/
  | readt
  deriving DecidableEq, Repr

end Sys2Proof
end

