-- ==== Sys2Proof/WellFormed.lean ====
section
/-! DEFINITION. The checks on terms. Every Instr is encodable, since its fields have exactly the widths of the
table; the configuration has the three checks of 00_scope R10, which the machine refuses to run without, and the
check that its bit assignment (10_state R32) is one-to-one, which no step needs. -/

namespace Sys2Proof

/-- Exactly one bit of a byte is set ("one-hot", 00_scope R10 (2)). -/
def oneHot (b : Byte) : Bool :=
  (List.range 8).countP (fun i => b.getLsbD i) == 1

/-- 00_scope R10 (1): every SEG_TABLE entry has bit DP_BIT set. -/
def Config.dpDark (c : Config) : Bool :=
  c.segTable.toList.all (fun b => b.getLsbD c.dpBit.val)

/-- 00_scope R10 (2): every ENABLE_MASK entry has exactly one bit set. -/
def Config.masksOneHot (c : Config) : Bool :=
  c.enableMask.toList.all oneHot

/-- 00_scope R10 (3): the ENABLE_MASK entries are pairwise distinct. -/
def Config.masksDistinct (c : Config) : Bool :=
  decide (c.enableMask.toList.Nodup)

/-- The three checks of 00_scope R10. -/
def Config.wellFormed (c : Config) : Bool :=
  c.dpDark && c.masksOneHot && c.masksDistinct

/-- The bit assignment of 10_state R32 gives no bit to two of a to g and the decimal point. It is no check of
00_scope R10 and no step reads it: what the display shows depends on it, what the machine does does not (DESIGN
CHOICE, log entry 26). -/
def Config.segmentsDistinct (c : Config) : Bool :=
  decide (c.segmentBits.toList ++ [c.dpBit]).Nodup

end Sys2Proof
end

