-- ==== Sys2Proof/Decode.lean ====
section
/-! DEFINITION. The decoder of 30_encoding R78, total on every 32-bit word and either port, rejecting by name;
after it the encoder of R73 to R76, and the match-and-mask table of R83. -/

namespace Sys2Proof

/-- The two input ports (30_encoding R70). -/
inductive Port where
  | command
  | timer
  deriving DecidableEq, Repr

/-- Why a word does not decode (30_encoding R78), with the word. -/
inductive DecodeFault where
  /-- ILLEGAL_CMD: an undefined OP, or a command on the wrong port. -/
  | illegalCmd (w : Word)
  /-- RESERVED_NONZERO: a defined OP with a reserved bit set. -/
  | reservedNonzero (w : Word)
  deriving DecidableEq, Repr

/-- `w[hi:lo]` of 00_scope R11 as a bit vector of `n = hi - lo + 1` bits. -/
def bitsAt (w : Word) (lo n : Nat) : BitVec n :=
  w.extractLsb' lo n

/-- The OP field (30_encoding R71). -/
def opOf (w : Word) : BitVec 4 :=
  bitsAt w 28 4

/-- The port a command belongs to (30_encoding R72). -/
def Instr.port (i : Instr) : Port :=
  match i with
  | .enc _ _ => .command
  | .commit _ _ => .command
  | .render _ _ _ => .command
  | .period => .timer
  | .clear => .command
  | .readt => .command

/-- The case analysis of 30_encoding R78, before the port is looked at. -/
def decodeWord (w : Word) : Except DecodeFault Instr :=
  match (opOf w).toNat with
  | 1 => if bitsAt w 5 23 = 0 then .ok (.enc (bitsAt w 4 1) (bitsAt w 0 4)) else .error (.reservedNonzero w)
  | 2 => if bitsAt w 16 12 = 0 then .ok (.commit (bitsAt w 8 8) (bitsAt w 0 8)) else .error (.reservedNonzero w)
  | 3 =>
    if bitsAt w 16 9 = 0 then .ok (.render (bitsAt w 27 1) (bitsAt w 25 2) (bitsAt w 0 16))
    else .error (.reservedNonzero w)
  | 4 => if bitsAt w 0 28 = 0 then .ok .period else .error (.reservedNonzero w)
  | 5 => if bitsAt w 0 28 = 0 then .ok .clear else .error (.reservedNonzero w)
  | 6 => if bitsAt w 0 28 = 0 then .ok .readt else .error (.reservedNonzero w)
  | _ => .error (.illegalCmd w)

/-- Decode of a word that arrives on a port (30_encoding R78): a command on the other port is ILLEGAL_CMD. The
reserved bits are checked first, as R78's pseudocode does (DEDUCED, log entry 15). -/
def decode (p : Port) (w : Word) : Except DecodeFault Instr :=
  match decodeWord w with
  | .error e => .error e
  | .ok i => if i.port = p then .ok i else .error (.illegalCmd w)

/-- The word of a command, by the formulas of 30_encoding R81 over the fields of R73 to R76. -/
def encode (i : Instr) : Word :=
  match i with
  | .enc dp digit => 0x10000000#32 ||| (dp.setWidth 32 <<< 4) ||| digit.setWidth 32
  | .commit seg en => 0x20000000#32 ||| (seg.setWidth 32 <<< 8) ||| en.setWidth 32
  | .render ud dpi value =>
    0x30000000#32 ||| (ud.setWidth 32 <<< 27) ||| (dpi.setWidth 32 <<< 25) ||| value.setWidth 32
  | .period => 0x40000000#32
  | .clear => 0x50000000#32
  | .readt => 0x60000000#32

/-- A row's match and mask in 30_encoding R83, for the row of a command. -/
def opcodeRow (i : Instr) : Word × Word :=
  match i with
  | .enc _ _ => (0x10000000#32, 0xFFFFFFE0#32)
  | .commit _ _ => (0x20000000#32, 0xFFFF0000#32)
  | .render _ _ _ => (0x30000000#32, 0xF1FF0000#32)
  | .period => (0x40000000#32, 0xFFFFFFFF#32)
  | .clear => (0x50000000#32, 0xFFFFFFFF#32)
  | .readt => (0x60000000#32, 0xFFFFFFFF#32)

/-- A word matches the row of a command (30_encoding R83). -/
def matchesRow (w : Word) (i : Instr) : Bool :=
  w &&& (opcodeRow i).2 == (opcodeRow i).1

/-- The command the decoder reads from an instruction of `nbits` bits (at most 32, a command word having no more)
whose bits are `w`, on the port its row names; none where the decoder refuses it. -/
def decodeTableWord (nbits w : Nat) : Option Instr :=
  if nbits ≤ 32 ∧ w < 2 ^ nbits then
    match decodeWord (BitVec.ofNat 32 w) with
    | .ok i => some i
    | .error _ => none
  else none

end Sys2Proof
end

