-- ==== Sys2Proof/Machine/Tables.lean ====
section
/-! DEFINITION. The default values of the lookup tables and the other parameters (10_state R31 to R33, 00_scope R9). -/

namespace Sys2Proof.Machine

/-- SEG_TABLE's default (10_state R31; UNVERIFIED, the spec itself marks it general knowledge, log entry 6). -/
def defaultSegTable : Vector Byte 10 :=
  #v[0xC0#8, 0xF9#8, 0xA4#8, 0xB0#8, 0x99#8, 0x92#8, 0x82#8, 0xF8#8, 0x80#8, 0x90#8]

/-- ENABLE_MASK's default, leftmost position first (10_state R33, log entry 6). -/
def defaultEnableMask : Vector Byte 4 :=
  #v[0x01#8, 0x02#8, 0x04#8, 0x08#8]

/-- The bits of a to g in the default assignment (10_state R32; UNVERIFIED, the spec itself marks it general knowledge,
log entry 6). -/
def defaultSegmentBits : Vector (Fin 8) 7 :=
  #v[0, 1, 2, 3, 4, 5, 6]

/-- The configuration this hardware takes (00_scope R9); the two OPEN durations are free values (log entry 8). -/
def defaultConfig : Config where
  segTable := defaultSegTable
  segmentBits := defaultSegmentBits
  dpBit := 7
  enableMask := defaultEnableMask
  negPolicy := .clamp0
  digitDwell := Config.openDigitDwell
  resetDebounce := Config.openResetDebounce

end Sys2Proof.Machine
end

