-- ==== Sys2Proof/Machine/State.lean ====
section
/-! DEFINITION. The state of the block: every element of 10_state R21 to R42, and the model's two scheduling
fields. There is no memory (20_memory R50) and no program counter (10_state R37). -/

namespace Sys2Proof.Machine

/-- MUX_PHASE (10_state R27). -/
inductive MuxPhase where
  | idle
  | load
  | send
  | dwell
  deriving DecidableEq, Repr

/-- SR_PHASE (10_state R29). -/
inductive SrPhase where
  | idle
  | latchLo
  | data
  | clkHi
  | clkLo
  | latchHi
  deriving DecidableEq, Repr

/-- The fault reasons of 60_exceptions R171, each with its recorded value. A step that raises one is a NEXT state
with FAULT written; from then on `step` answers `.fault` with it, because no agent takes a step (60 R170). All are
safe: the hardware goes on where the model stops. -/
inductive Fault where
  /-- ILLEGAL_CMD: raised by decode for an undefined OP or a command on the wrong port (30_encoding R78). Safe. -/
  | illegalCmd (w : Word)
  /-- RESERVED_NONZERO: raised by decode for a nonzero reserved bit (30_encoding R78). Safe. -/
  | reservedNonzero (w : Word)
  /-- BUSY_OVERLAP: raised by ENC, COMMIT, RENDER, CLEAR and READT while BUSY (60_exceptions R172). Safe. -/
  | busyOverlap (w : Word)
  /-- DIGIT_RANGE: raised by ENC for DIGIT 10..15 (40_segment_encoder R100). Safe. -/
  | digitRange (digit : BitVec 4)
  /-- NEG_VALUE: raised by RENDER of a negative value under NEG_POLICY = FAULT (42_display_multiplexer R131). Safe. -/
  | negValue (v : Int)
  /-- UNWRITTEN_READ: raised by the HOST's read of RES before ENC or READT wrote it (10_state R25; the rule states
  this fault: 60_exceptions R171, R191). Safe. -/
  | unwrittenRead
  deriving DecidableEq, Repr

/-- Why a step has no meaning. -/
inductive Refusal where
  /-- Answered by `exec` for a command without a meaning yet; no arm uses it now. Safe. -/
  | notModelled (mnemonic : String)
  /-- Answered by `step` for a configuration that fails a check of 00_scope R10. Safe: such a build is not the block. -/
  | configRejected
  deriving DecidableEq, Repr

/-- The state. The docstring of a field names the element and rule of spec/ it is. -/
structure State where
  /-- SEC (10_state R21, R23). -/
  sec : Fin 60
  /-- MIN (10_state R22, R23). -/
  min : Fin 100
  /-- TICK_PENDING (10_state R24). -/
  tickPending : Bool
  /-- RES (10_state R25). -/
  res : Half
  /-- Whether RES has been written; false is the spec's "unwritten" (10_state R25). -/
  resWritten : Bool
  /-- FAULT (10_state R26). -/
  fault : Option Fault
  /-- MUX_PHASE (10_state R27). -/
  muxPhase : MuxPhase
  /-- MUX_POS (10_state R27). -/
  muxPos : BitVec 2
  /-- MUX_DIG[0..3] (10_state R28). -/
  muxDig : Vector (Fin 10) 4
  /-- MUX_UD (10_state R28). -/
  muxUd : BitVec 1
  /-- MUX_DPI (10_state R28). -/
  muxDpi : BitVec 2
  /-- SR_PHASE (10_state R29). -/
  srPhase : SrPhase
  /-- SR_FRAME (10_state R29). -/
  srFrame : Half
  /-- SR_CNT (10_state R29). -/
  srCnt : BitVec 5
  /-- LATCH (10_state R30); true is level 1. -/
  latch : Bool
  /-- CLK (10_state R30). -/
  clk : Bool
  /-- DATA (10_state R30). -/
  data : Bool
  /-- DEV_CHAIN (10_state R34). -/
  devChain : Half
  /-- DEV_SEG_OUT (10_state R35). -/
  devSegOut : Byte
  /-- DEV_EN_OUT (10_state R35). -/
  devEnOut : Byte
  /-- FRAMES (10_state R42), oldest first. -/
  frames : List (Byte × Byte)
  /-- SEG_TABLE, ENABLE_MASK and the other constants (10_state R31 to R33, R39): no step writes them. -/
  cfg : Config
  /-- The MODEL's own: the turns still to be taken, next first (log entry 1). -/
  script : List Turn
  /-- The MODEL's own: how many free turns have been drawn (log entry 2). -/
  draws : Nat
  deriving DecidableEq, Repr

/-- Power-on reset of a block built with configuration `c` (70_reset_and_hazards R200, 10_state R43). Registers
the spec calls unwritten hold a named value (log entries 10 and 11); the device holds free values (log entry 9). -/
def State.powerOn (c : Config) : State where
  sec := 0
  min := 0
  tickPending := false
  res := 0#16
  resWritten := false
  fault := none
  muxPhase := .idle
  muxPos := 0#2
  muxDig := #v[0, 0, 0, 0]
  muxUd := 0#1
  muxDpi := 0#2
  srPhase := .idle
  srFrame := 0#16
  srCnt := 0#5
  latch := false
  clk := false
  data := false
  devChain := Config.powerOnChain
  devSegOut := Config.powerOnSegOut
  devEnOut := Config.powerOnEnOut
  frames := []
  cfg := c
  script := []
  draws := 0

/-- The machine right after reset (70_reset_and_hazards R200), with the default configuration. -/
def State.reset : State := State.powerOn defaultConfig

end Sys2Proof.Machine
end

