-- ==== Sys2Proof/Machine/Operands.lean ====
section
/-! DEFINITION. Operand forms and the pure computations on them: DIGIT and VALUE (30_encoding R77), SegEncode
(40_segment_encoder R101), the decimal digits (42_display_multiplexer R131), the decimal point of a position
(42 R133), the frame and its serial bits (20_memory R55), and the time word (43_clock_timer R156). -/

namespace Sys2Proof.Machine

/-- DIGIT as a table index: 10..15 is out of range (20_memory R51). -/
def digitOperand (d : BitVec 4) : Option (Fin 10) :=
  if h : d.toNat < 10 then some ⟨d.toNat, h⟩ else none

/-- `LUT(d)` (00_scope R12). -/
def lut (c : Config) (d : Fin 10) : Byte :=
  c.segTable.get d

/-- SegEncode (40_segment_encoder R101). -/
def segEncode (c : Config) (d : Fin 10) (dp : BitVec 1) : Byte :=
  if dp = 1#1 then lut c d &&& ~~~(1#8 <<< c.dpBit.val) else lut c d

/-- `v = sext_32(VALUE)` (30_encoding R75). -/
def renderValue (value : Half) : Int :=
  (value.signExtend 32).toInt

/-- `u` of 42_display_multiplexer R131: the value shown, or none where NEG_POLICY = FAULT forbids a negative one. -/
def renderOperand (p : NegPolicy) (v : Int) : Option Nat :=
  if v < 0 then
    match p with
    | .fault => none
    | .clamp0 => some 0
  else some v.toNat

/-- The digits of 42_display_multiplexer R131, thousands first. -/
def decimalDigits (u : Nat) : Vector (Fin 10) 4 :=
  #v[Fin.ofNat 10 (u / 1000), Fin.ofNat 10 (u / 100), Fin.ofNat 10 (u / 10), Fin.ofNat 10 u]

/-- `dp` of 42_display_multiplexer R133. -/
def decimalPoint (ud : BitVec 1) (dpi pos : BitVec 2) : BitVec 1 :=
  if ud = 1#1 ∧ dpi = pos then 1#1 else 0#1

/-- The enable mask of a position (10_state R33). -/
def enableOf (c : Config) (pos : BitVec 2) : Byte :=
  c.enableMask.get pos.toFin

/-- The frame of a position: what MUX_LOAD sends (42_display_multiplexer R133, R137). -/
def positionFrame (c : Config) (dig : Vector (Fin 10) 4) (ud : BitVec 1) (dpi pos : BitVec 2) : Byte × Byte :=
  (segEncode c (dig.get pos.toFin) (decimalPoint ud dpi pos), enableOf c pos)

/-- `seg : en` (20_memory R55). -/
def frameWord (seg en : Byte) : Half :=
  (seg.setWidth 16 <<< 8) ||| en.setWidth 16

/-- The first byte of a frame or chain, bits 15:8 (20_memory R56). -/
def highByte (h : Half) : Byte :=
  h.extractLsb' 8 8

/-- The second byte of a frame or chain, bits 7:0 (20_memory R56). -/
def lowByte (h : Half) : Byte :=
  h.extractLsb' 0 8

/-- `SR_FRAME[15 - SR_CNT]` (41_shift_register_bus R113); a free bit where the index names none (log entry 13). -/
def frameBit (frame : Half) (cnt : BitVec 5) : Bool :=
  if cnt.toNat < 16 then frame.getLsbD (15 - cnt.toNat) else Config.freeFrameBit frame cnt

/-- `DEV_CHAIN[14:0] : DATA` (41_shift_register_bus R117). -/
def shiftIn (chain : Half) (b : Bool) : Half :=
  chain.shiftConcat b

/-- `(zext_16(MIN) << 8) OR zext_16(SEC)` (43_clock_timer R156). -/
def timeWord (m : Fin 100) (s : Fin 60) : Half :=
  (BitVec.ofNat 16 m.val <<< 8) ||| BitVec.ofNat 16 s.val

end Sys2Proof.Machine
end

