-- ==== Sys2Proof/Machine/Flags.lean ====
section
/-! DEFINITION. The status bits (10_state R38): the block has no arithmetic flags; BUSY is a predicate, and
TICK_PENDING and FAULT are fields of State. -/

namespace Sys2Proof.Machine

/-- BUSY: `MUX_PHASE ≠ IDLE OR SR_PHASE ≠ IDLE` (10_state R36). -/
def busy (s : State) : Bool :=
  s.muxPhase != .idle || s.srPhase != .idle

end Sys2Proof.Machine
end

