-- ==== Sys2Proof/Machine/Ops.lean ====
section
/-! DEFINITION. The named operations over the registers, lines and device, each said once: writing and reading
RES, writing the time, driving the lines (00_scope R12) with the device's edge rules (41_shift_register_bus R117,
R118), starting the serializer (R111), raising a fault (60_exceptions R170), and servicing the timer interrupt
(60_exceptions R175). There is no return operation: the end of the TICK step is the return (60_exceptions R179). -/

namespace Sys2Proof.Machine

/-- The outcomes of a meaning or a step. -/
abbrev Result := Host.Outcome State Fault Refusal

/-- FAULT <- r, and nothing else (60_exceptions R170, R173). -/
def State.withFault (s : State) (r : Fault) : State :=
  { s with fault := some r }

/-- `raise Fault(r)`: a next state with FAULT written; no agent moves after it (60_exceptions R170, log entry 5). -/
def raiseFault (r : Fault) (s : State) : Result :=
  .next (s.withFault r)

/-- The fault a rejected word raises (30_encoding R78). -/
def faultOfDecode (e : DecodeFault) : Fault :=
  match e with
  | .illegalCmd w => .illegalCmd w
  | .reservedNonzero w => .reservedNonzero w

/-- The first line of every command-port command: BUSY_OVERLAP with the word while BUSY, else the body
(60_exceptions R172; the recorded word is the command's one encoding, log entry 18). -/
def whenIdle (i : Instr) (s : State) (body : Result) : Result :=
  if busy s then raiseFault (.busyOverlap (encode i)) s else body

/-- RES <- v; RES is written from then on (10_state R25). -/
def State.withRes (s : State) (v : Half) : State :=
  { s with res := v, resWritten := true }

/-- The HOST's read of RES: its value, or UNWRITTEN_READ before any write (10_state R25). -/
def readRes (s : State) : Except Fault Half :=
  if s.resWritten then .ok s.res else .error .unwrittenRead

/-- SEC and MIN in one atomic write (20_memory R59). -/
def State.withTime (s : State) (m : Fin 100) (sec : Fin 60) : State :=
  { s with min := m, sec := sec }

/-- TICK_PENDING <- b (10_state R24). -/
def State.withTickPending (s : State) (b : Bool) : State :=
  { s with tickPending := b }

/-- The arguments RENDER latches, and the start of the sequence (42_display_multiplexer R131). -/
def State.withRender (s : State) (dig : Vector (Fin 10) 4) (ud : BitVec 1) (dpi : BitVec 2) : State :=
  { s with muxDig := dig, muxUd := ud, muxDpi := dpi, muxPos := 0#2, muxPhase := .load }

/-- MUX_PHASE <- p (10_state R27). -/
def State.withMuxPhase (s : State) (p : MuxPhase) : State :=
  { s with muxPhase := p }

/-- MUX_POS <- p (10_state R27). -/
def State.withMuxPos (s : State) (p : BitVec 2) : State :=
  { s with muxPos := p }

/-- SR_PHASE <- p (10_state R29). -/
def State.withSrPhase (s : State) (p : SrPhase) : State :=
  { s with srPhase := p }

/-- SR_CNT <- n (10_state R29). -/
def State.withSrCnt (s : State) (n : BitVec 5) : State :=
  { s with srCnt := n }

/-- The model's scheduling fields, which no rule of spec/ names (log entries 1 and 2). -/
def State.withSchedule (s : State) (script : List Turn) (draws : Nat) : State :=
  { s with script := script, draws := draws }

/-- SRStart (41_shift_register_bus R111); it drives no line. -/
def srStart (seg en : Byte) (s : State) : State :=
  { s with srFrame := frameWord seg en, srCnt := 0#5, srPhase := .latchLo }

/-- `drive(DATA, b)`: the device has no rule for DATA (41_shift_register_bus R117, R118). -/
def driveData (b : Bool) (s : State) : State :=
  { s with data := b }

/-- `drive(CLK, b)`: a rising edge shifts DATA into the device (41_shift_register_bus R117). -/
def driveClk (b : Bool) (s : State) : State :=
  if b && !s.clk then { s with clk := b, devChain := shiftIn s.devChain s.data } else { s with clk := b }

/-- `drive(LATCH, b)`: a rising edge moves the chain to the outputs and records the frame
(41_shift_register_bus R118). -/
def driveLatch (b : Bool) (s : State) : State :=
  if b && !s.latch then
    { s with latch := b, devSegOut := highByte s.devChain, devEnOut := lowByte s.devChain,
             frames := s.frames ++ [(highByte s.devChain, lowByte s.devChain)] }
  else { s with latch := b }

/-- SEC and MIN after one tick (43_clock_timer R150): SEC 59 wraps to 0 and carries, MIN wraps modulo 100. -/
def nextTime (m : Fin 100) (sec : Fin 60) : Fin 100 × Fin 60 :=
  if sec.val + 1 = 60 then (Fin.ofNat 100 (m.val + 1), 0) else (m, Fin.ofNat 60 (sec.val + 1))

/-- Taking the timer interrupt: the whole handler in one atomic step (60_exceptions R175, 43_clock_timer R150). It
saves no state and changes no mode; it clears TICK_PENDING and advances the time. -/
def serviceTick (s : State) : State :=
  (s.withTime (nextTime s.min s.sec).1 (nextTime s.min s.sec).2).withTickPending false

end Sys2Proof.Machine
end

