-- ==== Sys2Proof/Machine/ClockTimer.lean ====
section
/-! DEFINITION. ClockTimer: PERIOD, CLEAR and READT (43_clock_timer R152, R154, R156) and the internal step TICK
(R150). -/

namespace Sys2Proof.Machine

/-- PERIOD (43_clock_timer R152): a second period before the tick is coalesced. It is never a BUSY_OVERLAP
(60_exceptions R172); the port was checked at decode. -/
def execPeriod (s : State) : Result :=
  .next (s.withTickPending true)

/-- CLEAR (43_clock_timer R154): both fields in one step; TICK_PENDING is kept. -/
def execClear (s : State) : Result :=
  whenIdle .clear s (.next (s.withTime 0 0))

/-- READT (43_clock_timer R156): MIN and SEC from the same state. -/
def execReadt (s : State) : Result :=
  whenIdle .readt s (.next (s.withRes (timeWord s.min s.sec)))

/-- TICK (43_clock_timer R150): enabled whenever TICK_PENDING = 1, whatever BUSY is. -/
def stepTick (s : State) : Option State :=
  if s.tickPending then some (serviceTick s) else none

end Sys2Proof.Machine
end

