-- ==== Sys2Proof/Machine/DisplayMultiplexer.lean ====
section
/-! DEFINITION. DisplayMultiplexer: RENDER (42_display_multiplexer R131) and the sequencer's internal steps (R133 to
R135). -/

namespace Sys2Proof.Machine

/-- RENDER (42_display_multiplexer R131): BUSY_OVERLAP, then NEG_VALUE under NEG_POLICY = FAULT, then the digits
and flags are latched and the sequence starts at position 0. -/
def execRender (ud : BitVec 1) (dpi : BitVec 2) (value : Half) (s : State) : Result :=
  whenIdle (.render ud dpi value) s
    (match renderOperand s.cfg.negPolicy (renderValue value) with
      | none => raiseFault (.negValue (renderValue value)) s
      | some u => .next (s.withRender (decimalDigits u) ud dpi))

/-- The frame of the current position (42_display_multiplexer R133). -/
def currentFrame (s : State) : Byte × Byte :=
  positionFrame s.cfg s.muxDig s.muxUd s.muxDpi s.muxPos

/-- MUX_LOAD (42_display_multiplexer R133). -/
def stepMuxLoad (s : State) : Option State :=
  if s.muxPhase = .load ∧ s.srPhase = .idle then
    some ((srStart (currentFrame s).1 (currentFrame s).2 s).withMuxPhase .send)
  else none

/-- MUX_SENT (42_display_multiplexer R134). -/
def stepMuxSent (s : State) : Option State :=
  if s.muxPhase = .send ∧ s.srPhase = .idle then some (s.withMuxPhase .dwell) else none

/-- DWELL_DONE (42_display_multiplexer R135): a dwell follows every position, the last one included (R136). -/
def stepDwellDone (s : State) : Option State :=
  if s.muxPhase = .dwell then
    some (if s.muxPos = 3#2 then s.withMuxPhase .idle else (s.withMuxPos (s.muxPos + 1#2)).withMuxPhase .load)
  else none

end Sys2Proof.Machine
end

