-- ==== Sys2Proof/Machine/SegmentEncoder.lean ====
section
/-! DEFINITION. SegmentEncoder: ENC (40_segment_encoder R100). -/

namespace Sys2Proof.Machine

/-- ENC (40_segment_encoder R100): BUSY_OVERLAP, then DIGIT_RANGE, then RES <- zext_16(SegEncode(DIGIT, DP)). -/
def execEnc (dp : BitVec 1) (digit : BitVec 4) (s : State) : Result :=
  whenIdle (.enc dp digit) s
    (match digitOperand digit with
      | none => raiseFault (.digitRange digit) s
      | some d => .next (s.withRes ((segEncode s.cfg d dp).setWidth 16)))

end Sys2Proof.Machine
end

