-- ==== Sys2Proof/Machine/ShiftRegisterBus.lean ====
section
/-! DEFINITION. ShiftRegisterBus: COMMIT (41_shift_register_bus R110) and the serializer's internal steps (R112 to
R116). An internal step answers none where its `await` fails (00_scope R12). -/

namespace Sys2Proof.Machine

/-- COMMIT (41_shift_register_bus R110): any SEG and EN are accepted. -/
def execCommit (seg en : Byte) (s : State) : Result :=
  whenIdle (.commit seg en) s (.next (srStart seg en s))

/-- SR_LATCH_LO (41_shift_register_bus R112). -/
def stepSrLatchLo (s : State) : Option State :=
  if s.srPhase = .latchLo then some ((driveLatch false s).withSrPhase .data) else none

/-- SR_DATA (41_shift_register_bus R113). -/
def stepSrData (s : State) : Option State :=
  if s.srPhase = .data then some ((driveData (frameBit s.srFrame s.srCnt) s).withSrPhase .clkHi) else none

/-- SR_CLK_HI (41_shift_register_bus R114). -/
def stepSrClkHi (s : State) : Option State :=
  if s.srPhase = .clkHi then some ((driveClk true s).withSrPhase .clkLo) else none

/-- SR_CLK_LO (41_shift_register_bus R115): the new SR_CNT decides the phase. -/
def stepSrClkLo (s : State) : Option State :=
  if s.srPhase = .clkLo then
    some (((driveClk false s).withSrCnt (s.srCnt + 1#5)).withSrPhase
      (if s.srCnt + 1#5 = 16#5 then .latchHi else .data))
  else none

/-- SR_LATCH_HI (41_shift_register_bus R116). -/
def stepSrLatchHi (s : State) : Option State :=
  if s.srPhase = .latchHi then some ((driveLatch true s).withSrPhase .idle) else none

end Sys2Proof.Machine
end

