-- ==== Sys2Proof/Machine/Dispatch.lean ====
section
/-! DEFINITION. One arm per command of the opcode table, each one call of its meaning. -/

namespace Sys2Proof.Machine

/-- The meaning of a command taken on its own port (30_encoding R72). -/
def exec (i : Instr) (s : State) : Host.Outcome State Fault Refusal :=
  match i with
  | .enc dp digit => Sys2Proof.Machine.execEnc dp digit s
  | .commit seg en => Sys2Proof.Machine.execCommit seg en s
  | .render ud dpi value => Sys2Proof.Machine.execRender ud dpi value s
  | .period => Sys2Proof.Machine.execPeriod s
  | .clear => Sys2Proof.Machine.execClear s
  | .readt => Sys2Proof.Machine.execReadt s

end Sys2Proof.Machine
end

