-- ==== Sys2Proof/Machine/Agents.lean ====
section
/-! DEFINITION. One step of one agent: the internal steps by name (30_encoding R80), the words on the two ports
(R70, R78), the HOST's read of RES (60_exceptions R190), and the choice of the next turn (60_exceptions R177). -/

namespace Sys2Proof.Machine

/-- An internal step, or none where it is not enabled (30_encoding R80, 00_scope R12 `await`). -/
def runInternal (k : Internal) (s : State) : Option State :=
  match k with
  | .tick => stepTick s
  | .muxLoad => stepMuxLoad s
  | .muxSent => stepMuxSent s
  | .dwellDone => stepDwellDone s
  | .srLatchLo => stepSrLatchLo s
  | .srData => stepSrData s
  | .srClkHi => stepSrClkHi s
  | .srClkLo => stepSrClkLo s
  | .srLatchHi => stepSrLatchHi s

/-- A word taken on a port in one atomic step: it decodes and runs, or it faults (30_encoding R70, R78). -/
def presentWord (p : Port) (w : Word) (s : State) : Result :=
  match decode p w with
  | .ok i => exec i s
  | .error e => raiseFault (faultOfDecode e) s

/-- The HOST reads RES (60_exceptions R190): the value is `readRes s`, and the block's state stays as it is; before
any write the read faults UNWRITTEN_READ (10_state R25, 60_exceptions R171, R191; the read as a turn is log entry 17).
The read is not held back while BUSY: 60_exceptions R190 and R191 name no wait for it, and 00_scope R14 and
70_reset_and_hazards R212 call the HOST blocked then (DESIGN CHOICE, safe, log entry 27). -/
def hostRead (s : State) : Result :=
  match readRes s with
  | .ok _ => .next s
  | .error f => raiseFault f s

/-- What a turn does. An internal step that is not enabled is no transition: the turn passes and the block's state
stays as it is (log entry 3). -/
def takeTurn (t : Turn) (s : State) : Result :=
  match t with
  | .host w => presentWord .command w s
  | .hostRead => hostRead s
  | .timerPort w => presentWord .timer w s
  | .internal k => .next ((runInternal k s).getD s)

/-- Which turn comes next: the first of the script, and a free one when the script is empty (log entries 1 and 2). -/
def nextTurn (s : State) : Turn :=
  match s.script with
  | t :: _ => t
  | [] => Config.freeTurn s.draws

/-- The state with that turn taken off the schedule. -/
def afterTurn (s : State) : State :=
  match s.script with
  | _ :: rest => s.withSchedule rest s.draws
  | [] => s.withSchedule [] (s.draws + 1)

/-- One step of the whole block: nothing moves once FAULT is set (60_exceptions R170), a configuration that fails
a check of 00_scope R10 is refused (log entry 7), and otherwise the agent whose turn it is moves. -/
def advance (s : State) : Result :=
  match s.fault with
  | some r => .fault r
  | none => if s.cfg.wellFormed then takeTurn (nextTurn s) (afterTurn s) else .refused .configRejected

/-- The turn that presents a word on its own port: PERIOD on the timer port, any other word on the command port
(30_encoding R70, log entry 4). -/
def turnOfWord (w : Word) : Turn :=
  match decodeWord w with
  | .ok .period => .timerPort w
  | .ok _ => .host w
  | .error _ => .host w

/-- The state with a word placed so that the very next step takes it (log entry 4). -/
def placeWord (s : State) (w : Word) : State :=
  s.withSchedule (turnOfWord w :: s.script) s.draws

end Sys2Proof.Machine
end

