-- ==== Sys2Proof/Machine/Step.lean ====
section
/-! DEFINITION. The step of the machine and the placing of a word for the next step. -/

namespace Sys2Proof.Machine

/-- One atomic transition of one agent (00_scope R13). -/
def step (s : State) : Host.Outcome State Fault Refusal :=
  advance s

/-- The state whose next step takes the command whose low `nbits` bits are `w`, the bits above them 0. A command word
has 32 bits and no operand word follows it; nothing is fetched (20_memory R65): the word is presented on its port. -/
def State.withFetchWord (s : State) (nbits w : Nat) : State :=
  placeWord s (BitVec.ofNat 32 (w % 2 ^ nbits))

end Sys2Proof.Machine
end

