-- ==== Sys2Proof/Machine/Assembler.lean ====
section
/-! DEFINITION. The assembler of 30_encoding R81 and the host's pseudo-instructions of R82. The assembler refuses a
number that does not fit its field; the text conventions R81 does not state are in log entry 20. -/

namespace Sys2Proof.Machine

/-- `ENC d, p`: d is 0..15 and p is 0 or 1. -/
def asmEnc (d p : Int) : Option Instr :=
  if 0 ≤ d ∧ d ≤ 15 ∧ 0 ≤ p ∧ p ≤ 1 then some (.enc (BitVec.ofInt 1 p) (BitVec.ofInt 4 d)) else none

/-- `COMMIT s, e`: s and e are 0..255. -/
def asmCommit (s e : Int) : Option Instr :=
  if 0 ≤ s ∧ s ≤ 255 ∧ 0 ≤ e ∧ e ≤ 255 then some (.commit (BitVec.ofInt 8 s) (BitVec.ofInt 8 e)) else none

/-- `RENDER v, u, i`: v is -32768..32767, u is 0 or 1, i is 0..3. -/
def asmRender (v u i : Int) : Option Instr :=
  if -32768 ≤ v ∧ v ≤ 32767 ∧ 0 ≤ u ∧ u ≤ 1 ∧ 0 ≤ i ∧ i ≤ 3 then
    some (.render (BitVec.ofInt 1 u) (BitVec.ofInt 2 i) (BitVec.ofInt 16 v))
  else none

/-- A mnemonic with its operands (30_encoding R81); the mnemonic's letters as characters. -/
def assembleForm (mnemonic : List Char) (operands : List Int) : Option Instr :=
  match mnemonic, operands with
  | ['E', 'N', 'C'], [d, p] => asmEnc d p
  | ['C', 'O', 'M', 'M', 'I', 'T'], [s, e] => asmCommit s e
  | ['R', 'E', 'N', 'D', 'E', 'R'], [v, u, i] => asmRender v u i
  | ['P', 'E', 'R', 'I', 'O', 'D'], [] => some .period
  | ['C', 'L', 'E', 'A', 'R'], [] => some .clear
  | ['R', 'E', 'A', 'D', 'T'], [] => some .readt
  | _, _ => none

/-- The value of a digit in bases up to 16. -/
def digitValue (c : Char) : Option Nat :=
  if 48 ≤ c.toNat ∧ c.toNat ≤ 57 then some (c.toNat - 48)
  else if 97 ≤ c.toNat ∧ c.toNat ≤ 102 then some (c.toNat - 87)
  else if 65 ≤ c.toNat ∧ c.toNat ≤ 70 then some (c.toNat - 55)
  else none

/-- Digits of a base, most significant first, after the value already read. -/
def readDigits (base : Nat) (text : List Char) (acc : Nat) : Option Nat :=
  match text with
  | [] => some acc
  | c :: rest =>
    match digitValue c with
    | none => none
    | some d => if d < base then readDigits base rest (acc * base + d) else none

/-- A number without a sign: hexadecimal after 0x, else decimal (30_encoding R81). -/
def readUnsigned (text : List Char) : Option Nat :=
  match text with
  | [] => none
  | ['0', 'x'] => none
  | '0' :: 'x' :: digits => readDigits 16 digits 0
  | digits => readDigits 10 digits 0

/-- A number, with a minus sign before it if it is negative. -/
def readNumber (text : List Char) : Option Int :=
  match text with
  | '-' :: digits => (readUnsigned digits).map (fun n => -(n : Int))
  | digits => (readUnsigned digits).map (fun n => (n : Int))

/-- The pieces of a text between commas. -/
def splitCommas (text piece : List Char) : List (List Char) :=
  match text with
  | [] => [piece.reverse]
  | c :: rest => if c = ',' then piece.reverse :: splitCommas rest [] else splitCommas rest (c :: piece)

/-- The operands of a line, none being written where there are none. -/
def readOperands (text : List Char) : Option (List Int) :=
  match text.filter (fun c => c != ' ') with
  | [] => some []
  | packed => (splitCommas packed []).mapM readNumber

/-- One line of assembler text (30_encoding R81). -/
def assemble (line : List Char) : Option Instr :=
  match readOperands ((line.dropWhile (fun c => c == ' ')).dropWhile (fun c => c != ' ')) with
  | none => none
  | some operands => assembleForm ((line.dropWhile (fun c => c == ' ')).takeWhile (fun c => c != ' ')) operands

/-- SHOWTIME's host arithmetic: `n = RES[15:8]*100 + RES[7:0]` (30_encoding R82, 43_clock_timer R158). -/
def showTimeValue (res : Half) : Nat :=
  (highByte res).toNat * 100 + (lowByte res).toNat

/-- SHOWTIME's second word, after READT left `res` (30_encoding R82): RENDER n, 0, 0. -/
def showTimeRender (res : Half) : Instr :=
  .render 0#1 0#2 (BitVec.ofNat 16 (showTimeValue res))

/-- SHOWVOLT's word for the number the host has rounded (30_encoding R82, 90_conflicts C3): RENDER n, 1, 1. The
rounding is the host's and outside the block (92_eei_decisions D32). -/
def showVoltRender (n : Half) : Instr :=
  .render 1#1 1#2 n

/-- RESETCLOCK's word (30_encoding R82); the wait of RESET_DEBOUNCE after it is the host's. -/
def resetClockCommand : Instr :=
  .clear

end Sys2Proof.Machine
end

