-- ==== Sys2Proof/Machine/Display.lean ====
section
/-! DEFINITION. What the outputs mean to the display: the segments a byte lights (10_state R32, 00_scope R16) and the
positions an enable byte enables (10_state R33). Appearance beyond these bytes is unsaid (91_not_in_source N19). -/

namespace Sys2Proof.Machine

/-- The segments and the decimal point (10_state R32). -/
inductive Segment where
  | a
  | b
  | c
  | d
  | e
  | f
  | g
  | dp
  deriving DecidableEq, Repr

/-- The bit of a segment: the configuration's assignment, a parameter (10_state R32, 92_eei_decisions D3); the point is
DP_BIT. -/
def segmentBit (cfg : Config) (x : Segment) : Fin 8 :=
  match x with
  | .a => cfg.segmentBits.get 0
  | .b => cfg.segmentBits.get 1
  | .c => cfg.segmentBits.get 2
  | .d => cfg.segmentBits.get 3
  | .e => cfg.segmentBits.get 4
  | .f => cfg.segmentBits.get 5
  | .g => cfg.segmentBits.get 6
  | .dp => cfg.dpBit

/-- Active-low: a segment is lit when its bit is 0 (00_scope R16). -/
def lit (cfg : Config) (pattern : Byte) (x : Segment) : Bool :=
  !pattern.getLsbD (segmentBit cfg x).val

/-- The segments a byte lights. -/
def litSegments (cfg : Config) (pattern : Byte) : List Segment :=
  [.a, .b, .c, .d, .e, .f, .g, .dp].filter (lit cfg pattern)

/-- The positions, leftmost first, whose one-hot mask an enable byte contains (10_state R33). -/
def enabledPositions (cfg : Config) (en : Byte) : List (BitVec 2) :=
  [0#2, 1#2, 2#2, 3#2].filter (fun p => en &&& enableOf cfg p != 0#8)

end Sys2Proof.Machine
end

