-- ==== Sys2Proof/Safety.lean ====
section
/-! DEFINITION. What a good run is: the quiescent point (60_exceptions R193), the invariant of the block's state
(70_reset_and_hazards R205 and what it rests on), scripts of turns and what they are compared by, and the
fairness of 70_reset_and_hazards R213. -/

namespace Sys2Proof.Machine

/-- The machine takes steps: FAULT is none (60_exceptions R170) and the configuration passes its checks (00_scope
R10). -/
abbrev Running (s : State) : Prop :=
  s.fault = none ∧ s.cfg.wellFormed = true

/-- A HOST's turn that presents a word. -/
def Turn.presentsCommand (t : Turn) : Bool :=
  match t with
  | .host _ => true
  | .hostRead => false
  | .timerPort _ => false
  | .internal _ => false

/-- A quiescent point (60_exceptions R193). -/
def Quiescent (s : State) : Prop :=
  s.fault = none ∧ busy s = false ∧ s.tickPending = false ∧ ∀ t ∈ s.script, t.presentsCommand = false

/-- How many bits of SR_FRAME the device has taken in (41_shift_register_bus R113 to R117). -/
def bitsSent (s : State) : Nat :=
  match s.srPhase with
  | .idle => 0
  | .latchLo => 0
  | .data => s.srCnt.toNat
  | .clkHi => s.srCnt.toNat
  | .clkLo => s.srCnt.toNat + 1
  | .latchHi => 16

/-- What holds of every state a run reaches (70_reset_and_hazards R205, 41_shift_register_bus R117 to R122,
42_display_multiplexer R133 to R136). -/
structure Inv (s : State) : Prop where
  /-- CLK = 1 exactly in phase CLK_LO (70_reset_and_hazards R205). -/
  clk_phase : s.clk = true ↔ s.srPhase = .clkLo
  /-- LATCH stays low from SR_LATCH_LO to SR_LATCH_HI, so SR_LATCH_HI makes a rising edge (41 R119). -/
  latch_low : s.srPhase ≠ .idle → s.srPhase ≠ .latchLo → s.latch = false
  /-- SR_CNT counts the bits: 0 at the start, below 16 while bits go out, 16 at the end (10_state R29). -/
  cnt_start : s.srPhase = .latchLo → s.srCnt = 0#5
  cnt_range : s.srPhase = .data ∨ s.srPhase = .clkHi ∨ s.srPhase = .clkLo → s.srCnt.toNat < 16
  cnt_end : s.srPhase = .latchHi → s.srCnt = 16#5
  /-- DATA holds the current bit around the clock's rising edge (41 R113). -/
  data_bit : s.srPhase = .clkHi ∨ s.srPhase = .clkLo → s.data = frameBit s.srFrame s.srCnt
  /-- The chain's low bits are the bits sent so far, in order (41 R117, 20_memory R55). -/
  chain_bits : s.devChain.toNat % 2 ^ bitsSent s = s.srFrame.toNat / 2 ^ (16 - bitsSent s)
  /-- The outputs hold the last frame latched (41 R118, R120). -/
  outputs_last : ∀ f, s.frames.getLast? = some f → f = (s.devSegOut, s.devEnOut)
  /-- No transfer runs while the multiplexer loads or dwells (41 R122, 42 R133 to R135). -/
  mux_alone : s.muxPhase = .load ∨ s.muxPhase = .dwell → s.srPhase = .idle
  /-- The transfer under way in SEND is the frame of the current position (42 R133). -/
  send_frame : s.muxPhase = .send → s.srPhase ≠ .idle →
    s.srFrame = frameWord (currentFrame s).1 (currentFrame s).2
  /-- Once it has latched, and through the dwell, that frame is the last of FRAMES (42 R134, R136). -/
  shown_frame : (s.muxPhase = .send ∧ s.srPhase = .idle) ∨ s.muxPhase = .dwell →
    s.frames.getLast? = some (currentFrame s)

/-- The word of PERIOD (30_encoding R76). -/
def periodWord : Word :=
  0x40000000#32

/-- A turn of the interrupt side: a period event or its tick (60_exceptions R174, R175). -/
def Turn.isClock (t : Turn) : Bool :=
  t == .timerPort periodWord || t == .internal .tick

/-- `l` is `turns` with clock turns put in between, anywhere and in any number (20_memory R61, 41 R121). -/
def Interleaves (l turns : List Turn) : Prop :=
  l.filter (fun t => !t.isClock) = turns

/-- The turns of one transfer (41_shift_register_bus R119 (a)): 50 SEQ steps. -/
def transferTurns : List Turn :=
  [.internal .srLatchLo] ++ (List.replicate 16 [.internal .srData, .internal .srClkHi, .internal .srClkLo]).flatten
    ++ [.internal .srLatchHi]

/-- The turns of one position of a RENDER (42_display_multiplexer R139). -/
def positionTurns : List Turn :=
  [.internal .muxLoad] ++ transferTurns ++ [.internal .muxSent, .internal .dwellDone]

/-- The turns of a RENDER after its acceptance (42_display_multiplexer R139): 212 of them. -/
def renderTurns : List Turn :=
  (List.replicate 4 positionTurns).flatten

/-- A period event and its tick. -/
def periodAndTick : List Turn :=
  [.timerPort periodWord, .internal .tick]

/-- The machine run through a list of turns, by `step` alone. -/
def runScript (l : List Turn) (s : State) : Result :=
  Host.Core.run Sys2Proof.core l.length (s.withSchedule l s.draws)

/-- The foreground's view: everything but SEC, MIN, TICK_PENDING and the model's schedule (60_exceptions R175). -/
def foreground (s : State) : State :=
  ((s.withTime 0 0).withTickPending false).withSchedule [] 0

/-- `T = 60*MIN + SEC` (43_clock_timer R151). -/
def totalSeconds (s : State) : Nat :=
  60 * s.min.val + s.sec.val

/-- The state after one more turn; a stopped machine stays where it is. -/
def followTurn (t : Turn) (s : State) : State :=
  match step (s.withSchedule [t] s.draws) with
  | .next u => u
  | .fault _ => s
  | .refused _ => s

/-- The run of an endless schedule of turns. -/
def runForever (schedule : Nat → Turn) (s : State) (n : Nat) : State :=
  match n with
  | 0 => s
  | k + 1 => followTurn (schedule k) (runForever schedule s k)

/-- Weak fairness (70_reset_and_hazards R213): an internal step that stays enabled eventually runs, and PERIOD
occurs infinitely often. -/
def WeaklyFair (schedule : Nat → Turn) (s : State) : Prop :=
  (∀ k n, (∀ m, n ≤ m → (runInternal k (runForever schedule s m)).isSome = true) →
    ∃ m, n ≤ m ∧ schedule m = .internal k) ∧
  ∀ n, ∃ m, n ≤ m ∧ schedule m = .timerPort periodWord

end Sys2Proof.Machine
end

