-- ==== Sys2Proof/Certificates/Slice0/Obligations.lean ====
section
/-! DEFINITION. The statements for the provers. Each docstring names the rule of spec/ it formalises. -/

open Sys2Proof Sys2Proof.Machine

/-! Decoding and encoding (30_encoding) -/

/-- Every command is read back from its own word on its own port: no bit of an encoding is dropped (R73 to R76, R81). -/
def Obligations.DecodeOfEncode : Prop :=
  ∀ i : Instr, decode i.port (encode i) = .ok i

/-- A word that decodes is the one encoding of its command, and came on that command's port (R71, R72, R78). -/
def Obligations.DecodedWordIsEncoding : Prop :=
  ∀ (p : Port) (w : Word) (i : Instr), decode p w = .ok i → encode i = w ∧ i.port = p

/-- The match and mask table of R83 and the case analysis of R78 agree; no word matches two rows; a defined OP that
matches no row has a nonzero reserved bit. -/
def Obligations.RowsMatchTheDecoder : Prop :=
  (∀ (w : Word) (i : Instr), decodeWord w = .ok i → matchesRow w i = true) ∧
  (∀ (w : Word) (i : Instr), matchesRow w i = true → ∃ j, decodeWord w = .ok j ∧ opcodeRow j = opcodeRow i) ∧
  (∀ (w : Word) (i j : Instr), matchesRow w i = true → matchesRow w j = true → opcodeRow i = opcodeRow j) ∧
  (∀ w : Word, 1 ≤ w.toNat / 2 ^ 28 → w.toNat / 2 ^ 28 ≤ 6 → (∀ i : Instr, matchesRow w i = false) →
    decodeWord w = .error (.reservedNonzero w))

/-- R78 in arithmetic on the word as a number: every word on every port, with every field's value. -/
def Obligations.DecodeFollowsCaseTable : Prop :=
  ∀ (p : Port) (w : Word),
    decode p w =
      if w.toNat / 2 ^ 28 = 1 then
        if w.toNat % 2 ^ 28 < 32 then
          if p = .command then .ok (.enc (BitVec.ofNat 1 (w.toNat / 16)) (BitVec.ofNat 4 w.toNat))
          else .error (.illegalCmd w)
        else .error (.reservedNonzero w)
      else if w.toNat / 2 ^ 28 = 2 then
        if w.toNat / 2 ^ 16 % 2 ^ 12 = 0 then
          if p = .command then .ok (.commit (BitVec.ofNat 8 (w.toNat / 256)) (BitVec.ofNat 8 w.toNat))
          else .error (.illegalCmd w)
        else .error (.reservedNonzero w)
      else if w.toNat / 2 ^ 28 = 3 then
        if w.toNat / 2 ^ 16 % 2 ^ 9 = 0 then
          if p = .command then
            .ok (.render (BitVec.ofNat 1 (w.toNat / 2 ^ 27)) (BitVec.ofNat 2 (w.toNat / 2 ^ 25))
              (BitVec.ofNat 16 w.toNat))
          else .error (.illegalCmd w)
        else .error (.reservedNonzero w)
      else if w.toNat / 2 ^ 28 = 4 then
        if w.toNat % 2 ^ 28 = 0 then
          if p = .timer then .ok .period else .error (.illegalCmd w)
        else .error (.reservedNonzero w)
      else if w.toNat / 2 ^ 28 = 5 then
        if w.toNat % 2 ^ 28 = 0 then
          if p = .command then .ok .clear else .error (.illegalCmd w)
        else .error (.reservedNonzero w)
      else if w.toNat / 2 ^ 28 = 6 then
        if w.toNat % 2 ^ 28 = 0 then
          if p = .command then .ok .readt else .error (.illegalCmd w)
        else .error (.reservedNonzero w)
      else .error (.illegalCmd w)

/-- Words of 95_test_vectors 2.1 to 2.5, one or more of every command and of every rejection. -/
def Obligations.SampleWordsDecode : Prop :=
  decode .command 0x10000012#32 = .ok (.enc 1#1 2#4) ∧
  decode .command 0x2000A402#32 = .ok (.commit 0xA4#8 0x02#8) ∧
  decode .command 0x3A0000F7#32 = .ok (.render 1#1 1#2 247#16) ∧
  decode .command 0x36000000#32 = .ok (.render 0#1 3#2 0#16) ∧
  decode .timer 0x40000000#32 = .ok .period ∧
  decode .command 0x50000000#32 = .ok .clear ∧
  decode .command 0x60000000#32 = .ok .readt ∧
  decode .command 0x00000000#32 = .error (.illegalCmd 0x00000000#32) ∧
  decode .command 0x1000002A#32 = .error (.reservedNonzero 0x1000002A#32) ∧
  decode .command 0x40000000#32 = .error (.illegalCmd 0x40000000#32) ∧
  decode .timer 0x50000000#32 = .error (.illegalCmd 0x50000000#32)

/-- The assembler's words and the numbers it refuses (R81). -/
def Obligations.AssemblerWords : Prop :=
  (∀ d p : Int, (0 ≤ d ∧ d ≤ 15 ∧ 0 ≤ p ∧ p ≤ 1 →
      ∃ i, asmEnc d p = some i ∧ ((encode i).toNat : Int) = 0x10000000 + p * 16 + d) ∧
    (¬ (0 ≤ d ∧ d ≤ 15 ∧ 0 ≤ p ∧ p ≤ 1) → asmEnc d p = none)) ∧
  (∀ x e : Int, (0 ≤ x ∧ x ≤ 255 ∧ 0 ≤ e ∧ e ≤ 255 →
      ∃ i, asmCommit x e = some i ∧ ((encode i).toNat : Int) = 0x20000000 + x * 256 + e) ∧
    (¬ (0 ≤ x ∧ x ≤ 255 ∧ 0 ≤ e ∧ e ≤ 255) → asmCommit x e = none)) ∧
  (∀ v u i : Int, (-32768 ≤ v ∧ v ≤ 32767 ∧ 0 ≤ u ∧ u ≤ 1 ∧ 0 ≤ i ∧ i ≤ 3 →
      ∃ j, asmRender v u i = some j ∧
        ((encode j).toNat : Int) = 0x30000000 + u * 2 ^ 27 + i * 2 ^ 25 + v % 65536) ∧
    (¬ (-32768 ≤ v ∧ v ≤ 32767 ∧ 0 ≤ u ∧ u ≤ 1 ∧ 0 ≤ i ∧ i ≤ 3) → asmRender v u i = none))

/-! SegmentEncoder (40_segment_encoder) -/

/-- SegEncode bit by bit: the table's entry, with bit DP_BIT cleared when the point is asked for (R101). -/
def Obligations.SegEncodeClearsOnlyThePoint : Prop :=
  ∀ (c : Config) (d : Fin 10) (dp : BitVec 1) (k : Nat), k < 8 →
    (segEncode c d dp).getLsbD k = ((c.segTable.get d).getLsbD k && !(dp == 1#1 && k == c.dpBit.val))

/-- Under the configuration checks the point is dark without the overlay and lit with it, and nothing else differs
(R102). -/
def Obligations.OverlayLightsThePoint : Prop :=
  ∀ (c : Config) (d : Fin 10), c.wellFormed = true →
    lit c (segEncode c d 0#1) .dp = false ∧ lit c (segEncode c d 1#1) .dp = true ∧
    ∀ k, k < 8 → k ≠ c.dpBit.val → (segEncode c d 0#1).getLsbD k = (segEncode c d 1#1).getLsbD k

/-- On a display whose bit assignment is one-to-one (10_state R32; the premise is the model's, log entry 26), the overlay
lights the decimal point beside the segments of the digit, and no other segment changes (R102, 00_scope R16). -/
def Obligations.OverlayKeepsSegments : Prop :=
  ∀ (c : Config) (d : Fin 10) (x : Segment), c.wellFormed = true → c.segmentsDistinct = true →
    (lit c (segEncode c d 1#1) x = true ↔ lit c (segEncode c d 0#1) x = true ∨ x = .dp)

/-- ENC of a digit 0..9 while not BUSY writes the zero-extended pattern to RES, and nothing else (R100). -/
def Obligations.EncWritesPattern : Prop :=
  ∀ (s : State) (dp : BitVec 1) (digit : BitVec 4) (h : digit.toNat < 10), busy s = false →
    exec (.enc dp digit) s =
      .next { s with res := (segEncode s.cfg ⟨digit.toNat, h⟩ dp).setWidth 16, resWritten := true }

/-- ENC of a digit 10..15 while not BUSY faults DIGIT_RANGE with the digit, and changes nothing else (R100, R51). -/
def Obligations.EncFaultsOnDigitRange : Prop :=
  ∀ (s : State) (dp : BitVec 1) (digit : BitVec 4), 10 ≤ digit.toNat → busy s = false →
    exec (.enc dp digit) s = .next { s with fault := some (.digitRange digit) }

/-! ShiftRegisterBus (41_shift_register_bus) -/

/-- COMMIT while not BUSY starts the serializer with any two bytes, and drives no line (R110, R111). -/
def Obligations.CommitStartsTransfer : Prop :=
  ∀ (s : State) (seg en : Byte), busy s = false →
    exec (.commit seg en) s =
      .next { s with srFrame := BitVec.ofNat 16 (256 * seg.toNat + en.toNat), srCnt := 0#5, srPhase := .latchLo }

/-- The five serializer steps with the device's edge rules (R112 to R118): when each is enabled, what it drives, and
what the device does. -/
def Obligations.SerializerSteps : Prop :=
  ∀ s : State,
    runInternal .srLatchLo s =
      (if s.srPhase = .latchLo then some { s with latch := false, srPhase := .data } else none) ∧
    (s.srCnt.toNat < 16 → runInternal .srData s =
      (if s.srPhase = .data then
        some { s with data := s.srFrame.getLsbD (15 - s.srCnt.toNat), srPhase := .clkHi } else none)) ∧
    runInternal .srClkHi s =
      (if s.srPhase = .clkHi then
        some { s with clk := true, srPhase := .clkLo,
                      devChain := if s.clk then s.devChain
                        else BitVec.ofNat 16 (2 * s.devChain.toNat + s.data.toNat) } else none) ∧
    runInternal .srClkLo s =
      (if s.srPhase = .clkLo then
        some { s with clk := false, srCnt := s.srCnt + 1#5,
                      srPhase := if s.srCnt + 1#5 = 16#5 then .latchHi else .data } else none) ∧
    runInternal .srLatchHi s =
      (if s.srPhase = .latchHi then
        some (if s.latch then { s with latch := true, srPhase := .idle }
          else { s with latch := true, srPhase := .idle,
                        devSegOut := BitVec.ofNat 8 (s.devChain.toNat / 256),
                        devEnOut := BitVec.ofNat 8 s.devChain.toNat,
                        frames := s.frames ++
                          [(BitVec.ofNat 8 (s.devChain.toNat / 256), BitVec.ofNat 8 s.devChain.toNat)] })
       else none)

/-- A transfer as a whole (R119): 50 steps and no fewer; 16 rising clock edges that sample the frame's bits from the
first; the outputs held until the last step and then both bytes at once, with one frame recorded; the levels at the
end. -/
def Obligations.TransferAsAWhole : Prop :=
  ∀ (s : State) (seg en : Byte), Running s → s.clk = false →
    transferTurns.length = 50 ∧
    (∀ n, n < 50 → ∃ u, runScript (transferTurns.take n) (srStart seg en s) = .next u ∧ u.srPhase ≠ .idle ∧
      u.devSegOut = s.devSegOut ∧ u.devEnOut = s.devEnOut ∧ u.frames = s.frames) ∧
    (∀ n, n < 50 → (transferTurns[n]? = some (.internal .srClkHi) ↔ ∃ k, k < 16 ∧ n = 3 * k + 2)) ∧
    (∀ k, k < 16 → ∃ u, runScript (transferTurns.take (3 * k + 2)) (srStart seg en s) = .next u ∧ u.clk = false ∧
      u.data = if k < 8 then seg.getLsbD (7 - k) else en.getLsbD (15 - k)) ∧
    ∃ t, runScript transferTurns (srStart seg en s) = .next t ∧
      t.srPhase = .idle ∧ t.devChain.toNat = 256 * seg.toNat + en.toNat ∧ t.devSegOut = seg ∧ t.devEnOut = en ∧
      t.frames = s.frames ++ [(seg, en)] ∧ t.latch = true ∧ t.clk = false ∧ t.data = en.getLsbD 0

/-- Period events and ticks between the steps of a transfer change neither the bits sent nor the frame latched (R121,
20_memory R61). A TICK turn among them with nothing pending passes (the model's choice, log entry 3). -/
def Obligations.InterleavedTransferLatchesFrame : Prop :=
  ∀ (s : State) (seg en : Byte) (l : List Turn), Running s → s.clk = false → Interleaves l transferTurns →
    ∃ t, runScript l (srStart seg en s) = .next t ∧ t.fault = none ∧ t.srPhase = .idle ∧
      t.devSegOut = seg ∧ t.devEnOut = en ∧ t.frames = s.frames ++ [(seg, en)]

/-- The outputs and FRAMES change only at the rising edge of LATCH in SR_LATCH_HI, so no half-shifted frame is ever
shown (R118, R120). -/
def Obligations.OutputsChangeOnlyAtLatch : Prop :=
  ∀ s t : State, step s = .next t →
    (t.devSegOut ≠ s.devSegOut ∨ t.devEnOut ≠ s.devEnOut ∨ t.frames ≠ s.frames) →
    nextTurn s = .internal .srLatchHi ∧ s.srPhase = .latchHi ∧ s.latch = false ∧ t.latch = true ∧
      t.frames = s.frames ++ [(t.devSegOut, t.devEnOut)]

/-- LATCH, CLK and DATA are written only by the serializer's steps, and are 0 at reset (10_state R30). -/
def Obligations.LinesDrivenOnlyBySerializer : Prop :=
  (∀ s t : State, step s = .next t → (t.latch ≠ s.latch ∨ t.clk ≠ s.clk ∨ t.data ≠ s.data) →
    ∃ k, k ∈ [Internal.srLatchLo, .srData, .srClkHi, .srClkLo, .srLatchHi] ∧ nextTurn s = .internal k) ∧
  ∀ c : Config, (State.powerOn c).latch = false ∧ (State.powerOn c).clk = false ∧ (State.powerOn c).data = false

/-! DisplayMultiplexer (42_display_multiplexer) -/

/-- RENDER while not BUSY latches the four decimal digits of its value, a negative one clamped to 0 under CLAMP0, and
starts the sequence at position 0 (R131). -/
def Obligations.RenderLatchesDigits : Prop :=
  ∀ (s : State) (ud : BitVec 1) (dpi : BitVec 2) (value : Half), busy s = false →
    (0 ≤ value.toInt ∨ s.cfg.negPolicy = .clamp0) →
    exec (.render ud dpi value) s =
      .next { s with
        muxDig := #v[Fin.ofNat 10 (value.toInt.toNat / 1000), Fin.ofNat 10 (value.toInt.toNat / 100),
          Fin.ofNat 10 (value.toInt.toNat / 10), Fin.ofNat 10 value.toInt.toNat],
        muxUd := ud, muxDpi := dpi, muxPos := 0#2, muxPhase := .load }

/-- RENDER of a negative value while not BUSY faults NEG_VALUE with the value under NEG_POLICY = FAULT (R131). -/
def Obligations.RenderFaultsOnNegative : Prop :=
  ∀ (s : State) (ud : BitVec 1) (dpi : BitVec 2) (value : Half), busy s = false → value.toInt < 0 →
    s.cfg.negPolicy = .fault →
    exec (.render ud dpi value) s = .next { s with fault := some (.negValue value.toInt) }

/-- The digits latched for a value of 0 or more are its low four decimal digits, and no overflow is flagged (R132). -/
def Obligations.RenderShowsLowFourDigits : Prop :=
  ∀ (s : State) (ud : BitVec 1) (dpi : BitVec 2) (value : Half), busy s = false → 0 ≤ value.toInt →
    ∃ t, exec (.render ud dpi value) s = .next t ∧ t.fault = s.fault ∧
      value.toInt.toNat % 10000 = 1000 * (t.muxDig.get 0).val + 100 * (t.muxDig.get 1).val
        + 10 * (t.muxDig.get 2).val + (t.muxDig.get 3).val

/-- The three sequencer steps (R133 to R135): when each is enabled and what it does. -/
def Obligations.SequencerSteps : Prop :=
  ∀ s : State,
    runInternal .muxLoad s =
      (if s.muxPhase = .load ∧ s.srPhase = .idle then
        some (srStart
          (segEncode s.cfg (s.muxDig.get s.muxPos.toFin) (if s.muxUd = 1#1 ∧ s.muxDpi = s.muxPos then 1#1 else 0#1))
          (s.cfg.enableMask.get s.muxPos.toFin) { s with muxPhase := .send })
       else none) ∧
    runInternal .muxSent s =
      (if s.muxPhase = .send ∧ s.srPhase = .idle then some { s with muxPhase := .dwell } else none) ∧
    runInternal .dwellDone s =
      (if s.muxPhase = .dwell then
        some (if s.muxPos.toNat = 3 then { s with muxPhase := .idle }
          else { s with muxPos := BitVec.ofNat 2 (s.muxPos.toNat + 1), muxPhase := .load })
       else none)

/-- A RENDER run to its end, with period events and ticks anywhere in between, appends exactly the four frames of its
value, position 0 first (R137), and ends idle without a fault. A TICK turn among them with nothing pending passes (the
model's choice, log entry 3). -/
def Obligations.RenderShowsFourFrames : Prop :=
  ∀ (s : State) (ud : BitVec 1) (dpi : BitVec 2) (value : Half) (l : List Turn), Running s → busy s = false →
    s.clk = false → (0 ≤ value.toInt ∨ s.cfg.negPolicy = .clamp0) → Interleaves l renderTurns →
    ∃ t, runScript (.host (encode (.render ud dpi value)) :: l) s = .next t ∧ t.fault = none ∧ busy t = false ∧
      t.frames = s.frames ++ (List.finRange 4).map (fun p =>
        (segEncode s.cfg (Fin.ofNat 10 (value.toInt.toNat / 10 ^ (3 - p.val)))
          (if ud = 1#1 ∧ dpi.toNat = p.val then 1#1 else 0#1), s.cfg.enableMask.get p))

/-- A RENDER holds BUSY through exactly 212 further steps; its frames latch at the 51st of each 53, the last at the
210th (R130, R139, 70_reset_and_hazards R215). -/
def Obligations.RenderBusyUntilLastDwell : Prop :=
  ∀ (s : State) (ud : BitVec 1) (dpi : BitVec 2) (value : Half) (n : Nat), Running s → busy s = false →
    s.clk = false → (0 ≤ value.toInt ∨ s.cfg.negPolicy = .clamp0) → n ≤ 212 →
    ∃ u, runScript (.host (encode (.render ud dpi value)) :: renderTurns.take n) s = .next u ∧
      busy u = decide (n < 212) ∧
      u.frames.length = s.frames.length + n / 53 + (if 51 ≤ n % 53 then 1 else 0)

/-- During a dwell the outputs hold the frame of the current position, which is the only position enabled (R136,
R141). -/
def Obligations.DwellShowsOneDigit : Prop :=
  ∀ s : State, Inv s → s.cfg.wellFormed = true → s.muxPhase = .dwell →
    (s.devSegOut, s.devEnOut) = currentFrame s ∧ oneHot s.devEnOut = true ∧
      enabledPositions s.cfg s.devEnOut = [s.muxPos]

/-- MUX_DIG, MUX_UD and MUX_DPI are written only by a RENDER that is accepted (10_state R28, R138). -/
def Obligations.RenderArgumentsWrittenOnlyByRender : Prop :=
  ∀ s t : State, step s = .next t → (t.muxDig ≠ s.muxDig ∨ t.muxUd ≠ s.muxUd ∨ t.muxDpi ≠ s.muxDpi) →
    busy s = false ∧ ∃ ud dpi value, nextTurn s = .host (encode (.render ud dpi value))

/-! ClockTimer (43_clock_timer) -/

/-- PERIOD sets TICK_PENDING, whatever BUSY is and whether or not a tick was pending (R152, R153). -/
def Obligations.PeriodSetsPending : Prop :=
  ∀ s : State, exec .period s = .next { s with tickPending := true }

/-- CLEAR while not BUSY zeroes SEC and MIN in one step and keeps TICK_PENDING (R154). -/
def Obligations.ClearZeroesTime : Prop :=
  ∀ s : State, busy s = false → exec .clear s = .next { s with sec := 0, min := 0 }

/-- READT while not BUSY writes MIN to bits 15:8 and SEC to bits 7:0 of RES (R156, 20_memory R56). -/
def Obligations.ReadtTakesSnapshot : Prop :=
  ∀ s : State, busy s = false →
    exec .readt s = .next { s with res := BitVec.ofNat 16 (256 * s.min.val + s.sec.val), resWritten := true }

/-- What READT writes is (MIN, SEC) of the state just before it, so its bytes are below 100 and 60 (R157). -/
def Obligations.ReadtNeverTorn : Prop :=
  ∀ s : State, busy s = false → ∃ t, exec .readt s = .next t ∧
    (t.res.extractLsb' 8 8).toNat = s.min.val ∧ (t.res.extractLsb' 0 8).toNat = s.sec.val ∧
    (t.res.extractLsb' 8 8).toNat < 100 ∧ (t.res.extractLsb' 0 8).toNat < 60

/-- The host's clock value after a READT is 100*MIN + SEC, at most 9959, and its RENDER shows the digits MMSS without
a decimal point (R158). -/
def Obligations.ClockDisplayDigits : Prop :=
  ∀ (s : State) (m : Fin 100) (c : Fin 60), busy s = false → s.res.toNat = 256 * m.val + c.val →
    showTimeValue s.res = 100 * m.val + c.val ∧ showTimeValue s.res ≤ 9959 ∧
    ∃ t, exec (showTimeRender s.res) s = .next t ∧ t.muxUd = 0#1 ∧
      (t.muxDig.get 0).val = m.val / 10 ∧ (t.muxDig.get 1).val = m.val % 10 ∧
      (t.muxDig.get 2).val = c.val / 10 ∧ (t.muxDig.get 3).val = c.val % 10

/-- TICK (R150): enabled exactly when TICK_PENDING = 1, whatever BUSY is; it clears TICK_PENDING and advances the
time, seconds wrapping at 60 and minutes at 100, and changes nothing else. -/
def Obligations.TickAdvancesTime : Prop :=
  ∀ (s : State) (rest : List Turn), Running s → s.script = .internal .tick :: rest →
    (s.tickPending = false → runInternal .tick s = none) ∧
    (s.tickPending = true → ∃ m c, step s =
        .next { s with tickPending := false, min := m, sec := c, script := rest } ∧
      (s.sec.val = 59 → c.val = 0 ∧ m.val = (s.min.val + 1) % 100) ∧
      (s.sec.val ≠ 59 → c.val = s.sec.val + 1 ∧ m = s.min))

/-- n periods, each with its tick, advance 60*MIN + SEC by n modulo 6000 (R151). -/
def Obligations.TicksCountModulo6000 : Prop :=
  ∀ (n : Nat) (s : State), Running s →
    ∃ t, runScript (List.replicate n periodAndTick).flatten s = .next t ∧
      totalSeconds t = (totalSeconds s + n) % 6000 ∧
      t.min.val = (totalSeconds s + n) % 6000 / 60 ∧ t.sec.val = (totalSeconds s + n) % 6000 % 60

/-- Any number of periods before one tick give one second (R152, 92_eei_decisions D18). -/
def Obligations.PeriodsCoalesce : Prop :=
  ∀ (n : Nat) (s : State), Running s →
    ∃ t, runScript (List.replicate (n + 1) (.timerPort periodWord) ++ [.internal .tick]) s = .next t ∧
      totalSeconds t = (totalSeconds s + 1) % 6000 ∧ t.tickPending = false

/-- A pending TICK and a CLEAR in either order: TICK then CLEAR gives (0, 0), CLEAR then TICK gives (0, 1) (R155). -/
def Obligations.ClearAndTickInEitherOrder : Prop :=
  ∀ s : State, Running s → busy s = false → s.tickPending = true →
    (∃ t, runScript [.internal .tick, .host (encode .clear)] s = .next t ∧ t.min = 0 ∧ t.sec = 0 ∧
      t.tickPending = false) ∧
    (∃ t, runScript [.host (encode .clear), .internal .tick] s = .next t ∧ t.min = 0 ∧ t.sec = 1 ∧
      t.tickPending = false)

/-- SEC and MIN change only by TICK and CLEAR, TICK_PENDING only by PERIOD and TICK (10_state R21, R22, R24). -/
def Obligations.TimerStateWriters : Prop :=
  ∀ s t : State, step s = .next t →
    ((t.sec ≠ s.sec ∨ t.min ≠ s.min) → nextTurn s = .internal .tick ∨ nextTurn s = .host 0x50000000#32) ∧
    (t.tickPending ≠ s.tickPending → nextTurn s = .internal .tick ∨ nextTurn s = .timerPort 0x40000000#32)

/-! Faults, the interrupt and the ports (60_exceptions) -/

/-- A well-formed command-port word while BUSY faults BUSY_OVERLAP with that word; PERIOD on the timer port never does
(R172). -/
def Obligations.WordWhileBusyFaults : Prop :=
  ∀ (s : State) (w : Word) (i : Instr) (rest : List Turn), Running s → busy s = true →
    (s.script = .host w :: rest → decode .command w = .ok i →
      step s = .next { s with script := rest, fault := some (.busyOverlap w) }) ∧
    (s.script = .timerPort w :: rest → decode .timer w = .ok i →
      step s = .next { s with script := rest, tickPending := true })

/-- The order of the checks of one command-port word (R176): decode, then BUSY, then the operands. -/
def Obligations.ChecksInOrder : Prop :=
  ∀ (s : State) (w : Word) (rest : List Turn), Running s → s.script = .host w :: rest →
    (w.toNat / 2 ^ 28 = 0 ∨ 7 ≤ w.toNat / 2 ^ 28 ∨ w = periodWord →
      step s = .next { s with script := rest, fault := some (.illegalCmd w) }) ∧
    (decode .command w = .error (.reservedNonzero w) →
      step s = .next { s with script := rest, fault := some (.reservedNonzero w) }) ∧
    (∀ i, decode .command w = .ok i → busy s = true →
      step s = .next { s with script := rest, fault := some (.busyOverlap w) }) ∧
    (∀ dp digit, decode .command w = .ok (.enc dp digit) → busy s = false → 10 ≤ digit.toNat →
      step s = .next { s with script := rest, fault := some (.digitRange digit) }) ∧
    (∀ ud dpi value, decode .command w = .ok (.render ud dpi value) → busy s = false → value.toInt < 0 →
      s.cfg.negPolicy = .fault → step s = .next { s with script := rest, fault := some (.negValue value.toInt) })

/-- A step that leaves FAULT set changed nothing else of the block, and after it no agent takes a step (R170, R173). -/
def Obligations.FaultsPreciseAndFinal : Prop :=
  (∀ s t : State, step s = .next t → t.fault ≠ none →
    ∃ r l n, t = { s with fault := some r, script := l, draws := n }) ∧
  ∀ s t : State, s.fault ≠ none → step s ≠ .next t

/-- The interrupt side leaves the foreground's state as it was, and what TICK does to the clock depends on the clock
alone (R175). -/
def Obligations.InterruptLeavesForeground : Prop :=
  (∀ (s : State) (rest : List Turn), Running s →
    (s.tickPending = true ∧ s.script = .internal .tick :: rest) ∨ s.script = .timerPort periodWord :: rest →
    ∃ t, step s = .next t ∧ foreground t = foreground s) ∧
  ∀ s u : State, s.sec = u.sec → s.min = u.min → s.tickPending = u.tickPending →
    (runInternal .tick s).map (fun t => (t.sec, t.min, t.tickPending)) =
      (runInternal .tick u).map (fun t => (t.sec, t.min, t.tickPending))

/-- Two states that agree on the foreground still agree on it after any same turn that is neither of the clock nor a
READT: the foreground learns the time only through READT (20_memory R61, R138). A turn whose step is not enabled passes
in both (the model's choice, log entry 3). -/
def Obligations.ForegroundIgnoresClock : Prop :=
  ∀ (s u : State) (turn : Turn) (l m : List Turn), Running s → foreground s = foreground u →
    s.script = turn :: l → u.script = turn :: m → turn.isClock = false → turn ≠ .host (encode .readt) →
    ∃ s' u', step s = .next s' ∧ step u = .next u' ∧ foreground s' = foreground u'

/-- The HOST's read of RES: UNWRITTEN_READ before any ENC or READT has written it, else its value and no change of the
block (10_state R25, R191); the read as a turn of its own, and its being taken while BUSY too, are the model's choices
(log entries 17 and 27). -/
def Obligations.ReadOfResChecksWritten : Prop :=
  (∀ (s : State) (rest : List Turn), Running s → s.script = .hostRead :: rest →
    (s.resWritten = false → step s = .next { s with script := rest, fault := some .unwrittenRead }) ∧
    (s.resWritten = true → readRes s = .ok s.res ∧ step s = .next { s with script := rest })) ∧
  ∀ c : Config, (State.powerOn c).resWritten = false

/-- RES and its written mark change only by ENC and READT (10_state R25). -/
def Obligations.ResWrittenOnlyByEncAndReadt : Prop :=
  ∀ s t : State, step s = .next t → (t.res ≠ s.res ∨ t.resWritten ≠ s.resWritten) →
    t.resWritten = true ∧
      (nextTurn s = .host 0x60000000#32 ∨ ∃ dp digit, nextTurn s = .host (encode (.enc dp digit)))

/-! Frames: what a command leaves unchanged -/

/-- ENC and READT: everything but RES, its written mark and FAULT is unchanged, and where FAULT is written RES is not
(20_memory R60, 60_exceptions R173). -/
def Obligations.FrameOfEncAndReadt : Prop :=
  ∀ (i : Instr) (s t : State), (i = .readt ∨ ∃ dp digit, i = .enc dp digit) → exec i s = .next t →
    t.sec = s.sec ∧ t.min = s.min ∧ t.tickPending = s.tickPending ∧ t.muxPhase = s.muxPhase ∧ t.muxPos = s.muxPos ∧
    t.muxDig = s.muxDig ∧ t.muxUd = s.muxUd ∧ t.muxDpi = s.muxDpi ∧ t.srPhase = s.srPhase ∧ t.srFrame = s.srFrame ∧
    t.srCnt = s.srCnt ∧ t.latch = s.latch ∧ t.clk = s.clk ∧ t.data = s.data ∧ t.devChain = s.devChain ∧
    t.devSegOut = s.devSegOut ∧ t.devEnOut = s.devEnOut ∧ t.frames = s.frames ∧ t.cfg = s.cfg ∧
    t.script = s.script ∧ t.draws = s.draws ∧
    (t.fault = s.fault ∨ (t.fault ≠ none ∧ t.res = s.res ∧ t.resWritten = s.resWritten))

/-- COMMIT: everything but SR_PHASE, SR_FRAME, SR_CNT and FAULT is unchanged, and where FAULT is written the others
are not (41_shift_register_bus R110, R111). -/
def Obligations.FrameOfCommit : Prop :=
  ∀ (seg en : Byte) (s t : State), exec (.commit seg en) s = .next t →
    t.sec = s.sec ∧ t.min = s.min ∧ t.tickPending = s.tickPending ∧ t.res = s.res ∧ t.resWritten = s.resWritten ∧
    t.muxPhase = s.muxPhase ∧ t.muxPos = s.muxPos ∧ t.muxDig = s.muxDig ∧ t.muxUd = s.muxUd ∧ t.muxDpi = s.muxDpi ∧
    t.latch = s.latch ∧ t.clk = s.clk ∧ t.data = s.data ∧ t.devChain = s.devChain ∧
    t.devSegOut = s.devSegOut ∧ t.devEnOut = s.devEnOut ∧ t.frames = s.frames ∧ t.cfg = s.cfg ∧
    t.script = s.script ∧ t.draws = s.draws ∧
    (t.fault = s.fault ∨
      (t.fault ≠ none ∧ t.srPhase = s.srPhase ∧ t.srFrame = s.srFrame ∧ t.srCnt = s.srCnt))

/-- RENDER: everything but the MUX registers and FAULT is unchanged, and where FAULT is written the others are not
(42_display_multiplexer R131). -/
def Obligations.FrameOfRender : Prop :=
  ∀ (ud : BitVec 1) (dpi : BitVec 2) (value : Half) (s t : State), exec (.render ud dpi value) s = .next t →
    t.sec = s.sec ∧ t.min = s.min ∧ t.tickPending = s.tickPending ∧ t.res = s.res ∧ t.resWritten = s.resWritten ∧
    t.srPhase = s.srPhase ∧ t.srFrame = s.srFrame ∧ t.srCnt = s.srCnt ∧
    t.latch = s.latch ∧ t.clk = s.clk ∧ t.data = s.data ∧ t.devChain = s.devChain ∧
    t.devSegOut = s.devSegOut ∧ t.devEnOut = s.devEnOut ∧ t.frames = s.frames ∧ t.cfg = s.cfg ∧
    t.script = s.script ∧ t.draws = s.draws ∧
    (t.fault = s.fault ∨
      (t.fault ≠ none ∧ t.muxPhase = s.muxPhase ∧ t.muxPos = s.muxPos ∧ t.muxDig = s.muxDig ∧ t.muxUd = s.muxUd ∧
        t.muxDpi = s.muxDpi))

/-- PERIOD and CLEAR: the foreground's registers, lines and device are unchanged; PERIOD keeps the time and FAULT,
CLEAR keeps TICK_PENDING, and where CLEAR writes FAULT it keeps the time (43_clock_timer R152, R154). -/
def Obligations.FrameOfPeriodAndClear : Prop :=
  ∀ (i : Instr) (s t : State), i = .period ∨ i = .clear → exec i s = .next t →
    t.res = s.res ∧ t.resWritten = s.resWritten ∧ t.muxPhase = s.muxPhase ∧ t.muxPos = s.muxPos ∧
    t.muxDig = s.muxDig ∧ t.muxUd = s.muxUd ∧ t.muxDpi = s.muxDpi ∧ t.srPhase = s.srPhase ∧ t.srFrame = s.srFrame ∧
    t.srCnt = s.srCnt ∧ t.latch = s.latch ∧ t.clk = s.clk ∧ t.data = s.data ∧ t.devChain = s.devChain ∧
    t.devSegOut = s.devSegOut ∧ t.devEnOut = s.devEnOut ∧ t.frames = s.frames ∧ t.cfg = s.cfg ∧
    t.script = s.script ∧ t.draws = s.draws ∧
    (i = .period → t.sec = s.sec ∧ t.min = s.min ∧ t.fault = s.fault) ∧
    (i = .clear → t.tickPending = s.tickPending ∧
      (t.fault = s.fault ∨ (t.fault ≠ none ∧ t.sec = s.sec ∧ t.min = s.min)))

/-! The whole machine -/

/-- A step runs the command its word decodes to: exec of it, at the state with the turn taken off the schedule
(R70, R78). -/
def Obligations.StepRunsDecodedCommand : Prop :=
  ∀ (s : State) (p : Port) (w : Word) (i : Instr) (rest : List Turn), Running s → decode p w = .ok i →
    s.script = (match p with | .command => Turn.host w | .timer => Turn.timerPort w) :: rest →
    step s = exec i { s with script := rest }

/-- A step whose turn is an internal step performs it where it is enabled; where its `await` fails the turn passes
(the model's choice, log entry 3) (R80, 00_scope R12). -/
def Obligations.StepRunsInternalStep : Prop :=
  ∀ (s : State) (k : Internal) (rest : List Turn), Running s → s.script = .internal k :: rest →
    (∀ t, runInternal k { s with script := rest } = some t → step s = .next t) ∧
    (runInternal k { s with script := rest } = none → step s = .next { s with script := rest })

/-- A placed word is what the very next step runs, on the port its command belongs to, with the schedule after it as
before (the model's own placing, log entry 4). -/
def Obligations.PlacedWordRunsNext : Prop :=
  ∀ (s : State) (nbits w : Nat) (i : Instr), Running s → decodeTableWord nbits w = some i →
    step (s.withFetchWord nbits w) = exec i s

/-- At most one step of SEQ is enabled in any state (00_scope R14, 60_exceptions R177). -/
def Obligations.OneSequencerStepEnabled : Prop :=
  ∀ (s : State) (j k : Internal), j.agent = .seq → k.agent = .seq →
    (runInternal j s).isSome = true → (runInternal k s).isSome = true → j = k

/-- Reset under any configuration leaves the values R200 gives, at a quiescent point (R193); the machine's own reset is
that of the default configuration, which passes the checks. That the HOST has no further word, a clause of the quiescent
point, is no rule of reset: it holds because the model's script is empty at reset (the model's choice, log entries 1, 2
and 4). -/
def Obligations.ResetValues : Prop :=
  (∀ c : Config, (State.powerOn c).sec = 0 ∧ (State.powerOn c).min = 0 ∧ (State.powerOn c).tickPending = false ∧
    (State.powerOn c).resWritten = false ∧ (State.powerOn c).fault = none ∧ (State.powerOn c).muxPhase = .idle ∧
    (State.powerOn c).srPhase = .idle ∧ (State.powerOn c).latch = false ∧ (State.powerOn c).clk = false ∧
    (State.powerOn c).data = false ∧ (State.powerOn c).frames = [] ∧ (State.powerOn c).cfg = c ∧
    Quiescent (State.powerOn c)) ∧
  State.reset = State.powerOn defaultConfig ∧ Running State.reset

/-- The invariant holds at reset, under any configuration. -/
def Obligations.ResetMeetsInvariant : Prop :=
  ∀ c : Config, Inv (State.powerOn c)

/-- Every step keeps the invariant: the clock line, the bit counter, the bits in the device, the frame under way and
the frame shown all stay consistent (70_reset_and_hazards R205; 41_shift_register_bus R117 to R122;
42_display_multiplexer R133 to R136). -/
def Obligations.StepKeepsInvariant : Prop :=
  ∀ s t : State, Inv s → step s = .next t → Inv t

/-- CLK = 1 exactly in phase CLK_LO, at reset and after every step, and only SR_CLK_HI and SR_CLK_LO drive it; so an
enabled SR_CLK_HI makes a rising edge, which shifts DATA into the device (70_reset_and_hazards R205). -/
def Obligations.ClockLineFollowsPhase : Prop :=
  (∀ c : Config, (State.powerOn c).clk = false ∧ (State.powerOn c).srPhase = .idle) ∧
  (∀ s t : State, (s.clk = true ↔ s.srPhase = .clkLo) → step s = .next t → (t.clk = true ↔ t.srPhase = .clkLo)) ∧
  (∀ s t : State, step s = .next t → t.clk ≠ s.clk →
    nextTurn s = .internal .srClkHi ∨ nextTurn s = .internal .srClkLo) ∧
  ∀ s t : State, (s.clk = true ↔ s.srPhase = .clkLo) → runInternal .srClkHi s = some t →
    s.clk = false ∧ t.clk = true ∧ t.devChain = BitVec.ofNat 16 (2 * s.devChain.toNat + s.data.toNat)

/-- No step writes the lookup tables or any other constant of the configuration (10_state R39, R41, 20_memory R65). -/
def Obligations.TablesNeverChange : Prop :=
  ∀ s t : State, step s = .next t → t.cfg = s.cfg

/-- A configuration is refused exactly when it fails one of the three checks (00_scope R10); that the step is where the
model refuses it is the model's choice (log entry 7). -/
def Obligations.BadConfigurationRefused : Prop :=
  ∀ s : State, s.fault = none →
    (step s = .refused .configRejected ↔
      ¬ ((∀ d : Fin 10, (s.cfg.segTable.get d).getLsbD s.cfg.dpBit.val = true) ∧
         (∀ p : Fin 4, ∃ k, k < 8 ∧ ∀ j, j < 8 → ((s.cfg.enableMask.get p).getLsbD j = true ↔ j = k)) ∧
         ∀ p q : Fin 4, p ≠ q → s.cfg.enableMask.get p ≠ s.cfg.enableMask.get q))

/-- Under the weak fairness of 70_reset_and_hazards R213, with the HOST silent and the timer port carrying only PERIOD,
BUSY ends: a COMMIT or RENDER under way finishes, without a fault. A turn whose step is not enabled passes (the model's
choice, log entry 3). From a state with SR_CNT of 16 or more in the bit rounds, which no run reaches, the transfer ends
because the 5-bit increment wraps at 32 (the model's reading, log entry 14). -/
def Obligations.BusyEndsUnderWeakFairness : Prop :=
  ∀ (schedule : Nat → Turn) (s : State), Running s → WeaklyFair schedule s →
    (∀ n, (∃ k, schedule n = .internal k) ∨ schedule n = .timerPort periodWord) →
    ∃ n, busy (runForever schedule s n) = false ∧ (runForever schedule s n).fault = none
end

