-- ==== Sys2Proof/Laws/State.lean ====
section
/-! SUPPORT. One lemma per field per named update of State: what each update writes, and what it leaves. -/

namespace Sys2Proof.Machine

@[simp] theorem State.withFault_sec (s : State) (r : Fault) : (s.withFault r).sec = s.sec := rfl
@[simp] theorem State.withFault_min (s : State) (r : Fault) : (s.withFault r).min = s.min := rfl
@[simp] theorem State.withFault_tickPending (s : State) (r : Fault) : (s.withFault r).tickPending = s.tickPending := rfl
@[simp] theorem State.withFault_res (s : State) (r : Fault) : (s.withFault r).res = s.res := rfl
@[simp] theorem State.withFault_resWritten (s : State) (r : Fault) : (s.withFault r).resWritten = s.resWritten := rfl
@[simp] theorem State.withFault_fault (s : State) (r : Fault) : (s.withFault r).fault = some r := rfl
@[simp] theorem State.withFault_muxPhase (s : State) (r : Fault) : (s.withFault r).muxPhase = s.muxPhase := rfl
@[simp] theorem State.withFault_muxPos (s : State) (r : Fault) : (s.withFault r).muxPos = s.muxPos := rfl
@[simp] theorem State.withFault_muxDig (s : State) (r : Fault) : (s.withFault r).muxDig = s.muxDig := rfl
@[simp] theorem State.withFault_muxUd (s : State) (r : Fault) : (s.withFault r).muxUd = s.muxUd := rfl
@[simp] theorem State.withFault_muxDpi (s : State) (r : Fault) : (s.withFault r).muxDpi = s.muxDpi := rfl
@[simp] theorem State.withFault_srPhase (s : State) (r : Fault) : (s.withFault r).srPhase = s.srPhase := rfl
@[simp] theorem State.withFault_srFrame (s : State) (r : Fault) : (s.withFault r).srFrame = s.srFrame := rfl
@[simp] theorem State.withFault_srCnt (s : State) (r : Fault) : (s.withFault r).srCnt = s.srCnt := rfl
@[simp] theorem State.withFault_latch (s : State) (r : Fault) : (s.withFault r).latch = s.latch := rfl
@[simp] theorem State.withFault_clk (s : State) (r : Fault) : (s.withFault r).clk = s.clk := rfl
@[simp] theorem State.withFault_data (s : State) (r : Fault) : (s.withFault r).data = s.data := rfl
@[simp] theorem State.withFault_devChain (s : State) (r : Fault) : (s.withFault r).devChain = s.devChain := rfl
@[simp] theorem State.withFault_devSegOut (s : State) (r : Fault) : (s.withFault r).devSegOut = s.devSegOut := rfl
@[simp] theorem State.withFault_devEnOut (s : State) (r : Fault) : (s.withFault r).devEnOut = s.devEnOut := rfl
@[simp] theorem State.withFault_frames (s : State) (r : Fault) : (s.withFault r).frames = s.frames := rfl
@[simp] theorem State.withFault_cfg (s : State) (r : Fault) : (s.withFault r).cfg = s.cfg := rfl
@[simp] theorem State.withFault_script (s : State) (r : Fault) : (s.withFault r).script = s.script := rfl
@[simp] theorem State.withFault_draws (s : State) (r : Fault) : (s.withFault r).draws = s.draws := rfl

@[simp] theorem State.withRes_sec (s : State) (v : Half) : (s.withRes v).sec = s.sec := rfl
@[simp] theorem State.withRes_min (s : State) (v : Half) : (s.withRes v).min = s.min := rfl
@[simp] theorem State.withRes_tickPending (s : State) (v : Half) : (s.withRes v).tickPending = s.tickPending := rfl
@[simp] theorem State.withRes_res (s : State) (v : Half) : (s.withRes v).res = v := rfl
@[simp] theorem State.withRes_resWritten (s : State) (v : Half) : (s.withRes v).resWritten = true := rfl
@[simp] theorem State.withRes_fault (s : State) (v : Half) : (s.withRes v).fault = s.fault := rfl
@[simp] theorem State.withRes_muxPhase (s : State) (v : Half) : (s.withRes v).muxPhase = s.muxPhase := rfl
@[simp] theorem State.withRes_muxPos (s : State) (v : Half) : (s.withRes v).muxPos = s.muxPos := rfl
@[simp] theorem State.withRes_muxDig (s : State) (v : Half) : (s.withRes v).muxDig = s.muxDig := rfl
@[simp] theorem State.withRes_muxUd (s : State) (v : Half) : (s.withRes v).muxUd = s.muxUd := rfl
@[simp] theorem State.withRes_muxDpi (s : State) (v : Half) : (s.withRes v).muxDpi = s.muxDpi := rfl
@[simp] theorem State.withRes_srPhase (s : State) (v : Half) : (s.withRes v).srPhase = s.srPhase := rfl
@[simp] theorem State.withRes_srFrame (s : State) (v : Half) : (s.withRes v).srFrame = s.srFrame := rfl
@[simp] theorem State.withRes_srCnt (s : State) (v : Half) : (s.withRes v).srCnt = s.srCnt := rfl
@[simp] theorem State.withRes_latch (s : State) (v : Half) : (s.withRes v).latch = s.latch := rfl
@[simp] theorem State.withRes_clk (s : State) (v : Half) : (s.withRes v).clk = s.clk := rfl
@[simp] theorem State.withRes_data (s : State) (v : Half) : (s.withRes v).data = s.data := rfl
@[simp] theorem State.withRes_devChain (s : State) (v : Half) : (s.withRes v).devChain = s.devChain := rfl
@[simp] theorem State.withRes_devSegOut (s : State) (v : Half) : (s.withRes v).devSegOut = s.devSegOut := rfl
@[simp] theorem State.withRes_devEnOut (s : State) (v : Half) : (s.withRes v).devEnOut = s.devEnOut := rfl
@[simp] theorem State.withRes_frames (s : State) (v : Half) : (s.withRes v).frames = s.frames := rfl
@[simp] theorem State.withRes_cfg (s : State) (v : Half) : (s.withRes v).cfg = s.cfg := rfl
@[simp] theorem State.withRes_script (s : State) (v : Half) : (s.withRes v).script = s.script := rfl
@[simp] theorem State.withRes_draws (s : State) (v : Half) : (s.withRes v).draws = s.draws := rfl

@[simp] theorem State.withTime_sec (s : State) (m : Fin 100) (c : Fin 60) : (s.withTime m c).sec = c := rfl
@[simp] theorem State.withTime_min (s : State) (m : Fin 100) (c : Fin 60) : (s.withTime m c).min = m := rfl
@[simp] theorem State.withTime_tickPending (s : State) (m : Fin 100) (c : Fin 60) : (s.withTime m c).tickPending = s.tickPending := rfl
@[simp] theorem State.withTime_res (s : State) (m : Fin 100) (c : Fin 60) : (s.withTime m c).res = s.res := rfl
@[simp] theorem State.withTime_resWritten (s : State) (m : Fin 100) (c : Fin 60) : (s.withTime m c).resWritten = s.resWritten := rfl
@[simp] theorem State.withTime_fault (s : State) (m : Fin 100) (c : Fin 60) : (s.withTime m c).fault = s.fault := rfl
@[simp] theorem State.withTime_muxPhase (s : State) (m : Fin 100) (c : Fin 60) : (s.withTime m c).muxPhase = s.muxPhase := rfl
@[simp] theorem State.withTime_muxPos (s : State) (m : Fin 100) (c : Fin 60) : (s.withTime m c).muxPos = s.muxPos := rfl
@[simp] theorem State.withTime_muxDig (s : State) (m : Fin 100) (c : Fin 60) : (s.withTime m c).muxDig = s.muxDig := rfl
@[simp] theorem State.withTime_muxUd (s : State) (m : Fin 100) (c : Fin 60) : (s.withTime m c).muxUd = s.muxUd := rfl
@[simp] theorem State.withTime_muxDpi (s : State) (m : Fin 100) (c : Fin 60) : (s.withTime m c).muxDpi = s.muxDpi := rfl
@[simp] theorem State.withTime_srPhase (s : State) (m : Fin 100) (c : Fin 60) : (s.withTime m c).srPhase = s.srPhase := rfl
@[simp] theorem State.withTime_srFrame (s : State) (m : Fin 100) (c : Fin 60) : (s.withTime m c).srFrame = s.srFrame := rfl
@[simp] theorem State.withTime_srCnt (s : State) (m : Fin 100) (c : Fin 60) : (s.withTime m c).srCnt = s.srCnt := rfl
@[simp] theorem State.withTime_latch (s : State) (m : Fin 100) (c : Fin 60) : (s.withTime m c).latch = s.latch := rfl
@[simp] theorem State.withTime_clk (s : State) (m : Fin 100) (c : Fin 60) : (s.withTime m c).clk = s.clk := rfl
@[simp] theorem State.withTime_data (s : State) (m : Fin 100) (c : Fin 60) : (s.withTime m c).data = s.data := rfl
@[simp] theorem State.withTime_devChain (s : State) (m : Fin 100) (c : Fin 60) : (s.withTime m c).devChain = s.devChain := rfl
@[simp] theorem State.withTime_devSegOut (s : State) (m : Fin 100) (c : Fin 60) : (s.withTime m c).devSegOut = s.devSegOut := rfl
@[simp] theorem State.withTime_devEnOut (s : State) (m : Fin 100) (c : Fin 60) : (s.withTime m c).devEnOut = s.devEnOut := rfl
@[simp] theorem State.withTime_frames (s : State) (m : Fin 100) (c : Fin 60) : (s.withTime m c).frames = s.frames := rfl
@[simp] theorem State.withTime_cfg (s : State) (m : Fin 100) (c : Fin 60) : (s.withTime m c).cfg = s.cfg := rfl
@[simp] theorem State.withTime_script (s : State) (m : Fin 100) (c : Fin 60) : (s.withTime m c).script = s.script := rfl
@[simp] theorem State.withTime_draws (s : State) (m : Fin 100) (c : Fin 60) : (s.withTime m c).draws = s.draws := rfl

@[simp] theorem State.withTickPending_sec (s : State) (b : Bool) : (s.withTickPending b).sec = s.sec := rfl
@[simp] theorem State.withTickPending_min (s : State) (b : Bool) : (s.withTickPending b).min = s.min := rfl
@[simp] theorem State.withTickPending_tickPending (s : State) (b : Bool) : (s.withTickPending b).tickPending = b := rfl
@[simp] theorem State.withTickPending_res (s : State) (b : Bool) : (s.withTickPending b).res = s.res := rfl
@[simp] theorem State.withTickPending_resWritten (s : State) (b : Bool) : (s.withTickPending b).resWritten = s.resWritten := rfl
@[simp] theorem State.withTickPending_fault (s : State) (b : Bool) : (s.withTickPending b).fault = s.fault := rfl
@[simp] theorem State.withTickPending_muxPhase (s : State) (b : Bool) : (s.withTickPending b).muxPhase = s.muxPhase := rfl
@[simp] theorem State.withTickPending_muxPos (s : State) (b : Bool) : (s.withTickPending b).muxPos = s.muxPos := rfl
@[simp] theorem State.withTickPending_muxDig (s : State) (b : Bool) : (s.withTickPending b).muxDig = s.muxDig := rfl
@[simp] theorem State.withTickPending_muxUd (s : State) (b : Bool) : (s.withTickPending b).muxUd = s.muxUd := rfl
@[simp] theorem State.withTickPending_muxDpi (s : State) (b : Bool) : (s.withTickPending b).muxDpi = s.muxDpi := rfl
@[simp] theorem State.withTickPending_srPhase (s : State) (b : Bool) : (s.withTickPending b).srPhase = s.srPhase := rfl
@[simp] theorem State.withTickPending_srFrame (s : State) (b : Bool) : (s.withTickPending b).srFrame = s.srFrame := rfl
@[simp] theorem State.withTickPending_srCnt (s : State) (b : Bool) : (s.withTickPending b).srCnt = s.srCnt := rfl
@[simp] theorem State.withTickPending_latch (s : State) (b : Bool) : (s.withTickPending b).latch = s.latch := rfl
@[simp] theorem State.withTickPending_clk (s : State) (b : Bool) : (s.withTickPending b).clk = s.clk := rfl
@[simp] theorem State.withTickPending_data (s : State) (b : Bool) : (s.withTickPending b).data = s.data := rfl
@[simp] theorem State.withTickPending_devChain (s : State) (b : Bool) : (s.withTickPending b).devChain = s.devChain := rfl
@[simp] theorem State.withTickPending_devSegOut (s : State) (b : Bool) : (s.withTickPending b).devSegOut = s.devSegOut := rfl
@[simp] theorem State.withTickPending_devEnOut (s : State) (b : Bool) : (s.withTickPending b).devEnOut = s.devEnOut := rfl
@[simp] theorem State.withTickPending_frames (s : State) (b : Bool) : (s.withTickPending b).frames = s.frames := rfl
@[simp] theorem State.withTickPending_cfg (s : State) (b : Bool) : (s.withTickPending b).cfg = s.cfg := rfl
@[simp] theorem State.withTickPending_script (s : State) (b : Bool) : (s.withTickPending b).script = s.script := rfl
@[simp] theorem State.withTickPending_draws (s : State) (b : Bool) : (s.withTickPending b).draws = s.draws := rfl

@[simp] theorem State.withRender_sec (s : State) (g : Vector (Fin 10) 4) (u : BitVec 1) (i : BitVec 2) : (s.withRender g u i).sec = s.sec := rfl
@[simp] theorem State.withRender_min (s : State) (g : Vector (Fin 10) 4) (u : BitVec 1) (i : BitVec 2) : (s.withRender g u i).min = s.min := rfl
@[simp] theorem State.withRender_tickPending (s : State) (g : Vector (Fin 10) 4) (u : BitVec 1) (i : BitVec 2) : (s.withRender g u i).tickPending = s.tickPending := rfl
@[simp] theorem State.withRender_res (s : State) (g : Vector (Fin 10) 4) (u : BitVec 1) (i : BitVec 2) : (s.withRender g u i).res = s.res := rfl
@[simp] theorem State.withRender_resWritten (s : State) (g : Vector (Fin 10) 4) (u : BitVec 1) (i : BitVec 2) : (s.withRender g u i).resWritten = s.resWritten := rfl
@[simp] theorem State.withRender_fault (s : State) (g : Vector (Fin 10) 4) (u : BitVec 1) (i : BitVec 2) : (s.withRender g u i).fault = s.fault := rfl
@[simp] theorem State.withRender_muxPhase (s : State) (g : Vector (Fin 10) 4) (u : BitVec 1) (i : BitVec 2) : (s.withRender g u i).muxPhase = .load := rfl
@[simp] theorem State.withRender_muxPos (s : State) (g : Vector (Fin 10) 4) (u : BitVec 1) (i : BitVec 2) : (s.withRender g u i).muxPos = 0#2 := rfl
@[simp] theorem State.withRender_muxDig (s : State) (g : Vector (Fin 10) 4) (u : BitVec 1) (i : BitVec 2) : (s.withRender g u i).muxDig = g := rfl
@[simp] theorem State.withRender_muxUd (s : State) (g : Vector (Fin 10) 4) (u : BitVec 1) (i : BitVec 2) : (s.withRender g u i).muxUd = u := rfl
@[simp] theorem State.withRender_muxDpi (s : State) (g : Vector (Fin 10) 4) (u : BitVec 1) (i : BitVec 2) : (s.withRender g u i).muxDpi = i := rfl
@[simp] theorem State.withRender_srPhase (s : State) (g : Vector (Fin 10) 4) (u : BitVec 1) (i : BitVec 2) : (s.withRender g u i).srPhase = s.srPhase := rfl
@[simp] theorem State.withRender_srFrame (s : State) (g : Vector (Fin 10) 4) (u : BitVec 1) (i : BitVec 2) : (s.withRender g u i).srFrame = s.srFrame := rfl
@[simp] theorem State.withRender_srCnt (s : State) (g : Vector (Fin 10) 4) (u : BitVec 1) (i : BitVec 2) : (s.withRender g u i).srCnt = s.srCnt := rfl
@[simp] theorem State.withRender_latch (s : State) (g : Vector (Fin 10) 4) (u : BitVec 1) (i : BitVec 2) : (s.withRender g u i).latch = s.latch := rfl
@[simp] theorem State.withRender_clk (s : State) (g : Vector (Fin 10) 4) (u : BitVec 1) (i : BitVec 2) : (s.withRender g u i).clk = s.clk := rfl
@[simp] theorem State.withRender_data (s : State) (g : Vector (Fin 10) 4) (u : BitVec 1) (i : BitVec 2) : (s.withRender g u i).data = s.data := rfl
@[simp] theorem State.withRender_devChain (s : State) (g : Vector (Fin 10) 4) (u : BitVec 1) (i : BitVec 2) : (s.withRender g u i).devChain = s.devChain := rfl
@[simp] theorem State.withRender_devSegOut (s : State) (g : Vector (Fin 10) 4) (u : BitVec 1) (i : BitVec 2) : (s.withRender g u i).devSegOut = s.devSegOut := rfl
@[simp] theorem State.withRender_devEnOut (s : State) (g : Vector (Fin 10) 4) (u : BitVec 1) (i : BitVec 2) : (s.withRender g u i).devEnOut = s.devEnOut := rfl
@[simp] theorem State.withRender_frames (s : State) (g : Vector (Fin 10) 4) (u : BitVec 1) (i : BitVec 2) : (s.withRender g u i).frames = s.frames := rfl
@[simp] theorem State.withRender_cfg (s : State) (g : Vector (Fin 10) 4) (u : BitVec 1) (i : BitVec 2) : (s.withRender g u i).cfg = s.cfg := rfl
@[simp] theorem State.withRender_script (s : State) (g : Vector (Fin 10) 4) (u : BitVec 1) (i : BitVec 2) : (s.withRender g u i).script = s.script := rfl
@[simp] theorem State.withRender_draws (s : State) (g : Vector (Fin 10) 4) (u : BitVec 1) (i : BitVec 2) : (s.withRender g u i).draws = s.draws := rfl

@[simp] theorem State.withMuxPhase_sec (s : State) (p : MuxPhase) : (s.withMuxPhase p).sec = s.sec := rfl
@[simp] theorem State.withMuxPhase_min (s : State) (p : MuxPhase) : (s.withMuxPhase p).min = s.min := rfl
@[simp] theorem State.withMuxPhase_tickPending (s : State) (p : MuxPhase) : (s.withMuxPhase p).tickPending = s.tickPending := rfl
@[simp] theorem State.withMuxPhase_res (s : State) (p : MuxPhase) : (s.withMuxPhase p).res = s.res := rfl
@[simp] theorem State.withMuxPhase_resWritten (s : State) (p : MuxPhase) : (s.withMuxPhase p).resWritten = s.resWritten := rfl
@[simp] theorem State.withMuxPhase_fault (s : State) (p : MuxPhase) : (s.withMuxPhase p).fault = s.fault := rfl
@[simp] theorem State.withMuxPhase_muxPhase (s : State) (p : MuxPhase) : (s.withMuxPhase p).muxPhase = p := rfl
@[simp] theorem State.withMuxPhase_muxPos (s : State) (p : MuxPhase) : (s.withMuxPhase p).muxPos = s.muxPos := rfl
@[simp] theorem State.withMuxPhase_muxDig (s : State) (p : MuxPhase) : (s.withMuxPhase p).muxDig = s.muxDig := rfl
@[simp] theorem State.withMuxPhase_muxUd (s : State) (p : MuxPhase) : (s.withMuxPhase p).muxUd = s.muxUd := rfl
@[simp] theorem State.withMuxPhase_muxDpi (s : State) (p : MuxPhase) : (s.withMuxPhase p).muxDpi = s.muxDpi := rfl
@[simp] theorem State.withMuxPhase_srPhase (s : State) (p : MuxPhase) : (s.withMuxPhase p).srPhase = s.srPhase := rfl
@[simp] theorem State.withMuxPhase_srFrame (s : State) (p : MuxPhase) : (s.withMuxPhase p).srFrame = s.srFrame := rfl
@[simp] theorem State.withMuxPhase_srCnt (s : State) (p : MuxPhase) : (s.withMuxPhase p).srCnt = s.srCnt := rfl
@[simp] theorem State.withMuxPhase_latch (s : State) (p : MuxPhase) : (s.withMuxPhase p).latch = s.latch := rfl
@[simp] theorem State.withMuxPhase_clk (s : State) (p : MuxPhase) : (s.withMuxPhase p).clk = s.clk := rfl
@[simp] theorem State.withMuxPhase_data (s : State) (p : MuxPhase) : (s.withMuxPhase p).data = s.data := rfl
@[simp] theorem State.withMuxPhase_devChain (s : State) (p : MuxPhase) : (s.withMuxPhase p).devChain = s.devChain := rfl
@[simp] theorem State.withMuxPhase_devSegOut (s : State) (p : MuxPhase) : (s.withMuxPhase p).devSegOut = s.devSegOut := rfl
@[simp] theorem State.withMuxPhase_devEnOut (s : State) (p : MuxPhase) : (s.withMuxPhase p).devEnOut = s.devEnOut := rfl
@[simp] theorem State.withMuxPhase_frames (s : State) (p : MuxPhase) : (s.withMuxPhase p).frames = s.frames := rfl
@[simp] theorem State.withMuxPhase_cfg (s : State) (p : MuxPhase) : (s.withMuxPhase p).cfg = s.cfg := rfl
@[simp] theorem State.withMuxPhase_script (s : State) (p : MuxPhase) : (s.withMuxPhase p).script = s.script := rfl
@[simp] theorem State.withMuxPhase_draws (s : State) (p : MuxPhase) : (s.withMuxPhase p).draws = s.draws := rfl

@[simp] theorem State.withMuxPos_sec (s : State) (p : BitVec 2) : (s.withMuxPos p).sec = s.sec := rfl
@[simp] theorem State.withMuxPos_min (s : State) (p : BitVec 2) : (s.withMuxPos p).min = s.min := rfl
@[simp] theorem State.withMuxPos_tickPending (s : State) (p : BitVec 2) : (s.withMuxPos p).tickPending = s.tickPending := rfl
@[simp] theorem State.withMuxPos_res (s : State) (p : BitVec 2) : (s.withMuxPos p).res = s.res := rfl
@[simp] theorem State.withMuxPos_resWritten (s : State) (p : BitVec 2) : (s.withMuxPos p).resWritten = s.resWritten := rfl
@[simp] theorem State.withMuxPos_fault (s : State) (p : BitVec 2) : (s.withMuxPos p).fault = s.fault := rfl
@[simp] theorem State.withMuxPos_muxPhase (s : State) (p : BitVec 2) : (s.withMuxPos p).muxPhase = s.muxPhase := rfl
@[simp] theorem State.withMuxPos_muxPos (s : State) (p : BitVec 2) : (s.withMuxPos p).muxPos = p := rfl
@[simp] theorem State.withMuxPos_muxDig (s : State) (p : BitVec 2) : (s.withMuxPos p).muxDig = s.muxDig := rfl
@[simp] theorem State.withMuxPos_muxUd (s : State) (p : BitVec 2) : (s.withMuxPos p).muxUd = s.muxUd := rfl
@[simp] theorem State.withMuxPos_muxDpi (s : State) (p : BitVec 2) : (s.withMuxPos p).muxDpi = s.muxDpi := rfl
@[simp] theorem State.withMuxPos_srPhase (s : State) (p : BitVec 2) : (s.withMuxPos p).srPhase = s.srPhase := rfl
@[simp] theorem State.withMuxPos_srFrame (s : State) (p : BitVec 2) : (s.withMuxPos p).srFrame = s.srFrame := rfl
@[simp] theorem State.withMuxPos_srCnt (s : State) (p : BitVec 2) : (s.withMuxPos p).srCnt = s.srCnt := rfl
@[simp] theorem State.withMuxPos_latch (s : State) (p : BitVec 2) : (s.withMuxPos p).latch = s.latch := rfl
@[simp] theorem State.withMuxPos_clk (s : State) (p : BitVec 2) : (s.withMuxPos p).clk = s.clk := rfl
@[simp] theorem State.withMuxPos_data (s : State) (p : BitVec 2) : (s.withMuxPos p).data = s.data := rfl
@[simp] theorem State.withMuxPos_devChain (s : State) (p : BitVec 2) : (s.withMuxPos p).devChain = s.devChain := rfl
@[simp] theorem State.withMuxPos_devSegOut (s : State) (p : BitVec 2) : (s.withMuxPos p).devSegOut = s.devSegOut := rfl
@[simp] theorem State.withMuxPos_devEnOut (s : State) (p : BitVec 2) : (s.withMuxPos p).devEnOut = s.devEnOut := rfl
@[simp] theorem State.withMuxPos_frames (s : State) (p : BitVec 2) : (s.withMuxPos p).frames = s.frames := rfl
@[simp] theorem State.withMuxPos_cfg (s : State) (p : BitVec 2) : (s.withMuxPos p).cfg = s.cfg := rfl
@[simp] theorem State.withMuxPos_script (s : State) (p : BitVec 2) : (s.withMuxPos p).script = s.script := rfl
@[simp] theorem State.withMuxPos_draws (s : State) (p : BitVec 2) : (s.withMuxPos p).draws = s.draws := rfl

@[simp] theorem State.withSrPhase_sec (s : State) (p : SrPhase) : (s.withSrPhase p).sec = s.sec := rfl
@[simp] theorem State.withSrPhase_min (s : State) (p : SrPhase) : (s.withSrPhase p).min = s.min := rfl
@[simp] theorem State.withSrPhase_tickPending (s : State) (p : SrPhase) : (s.withSrPhase p).tickPending = s.tickPending := rfl
@[simp] theorem State.withSrPhase_res (s : State) (p : SrPhase) : (s.withSrPhase p).res = s.res := rfl
@[simp] theorem State.withSrPhase_resWritten (s : State) (p : SrPhase) : (s.withSrPhase p).resWritten = s.resWritten := rfl
@[simp] theorem State.withSrPhase_fault (s : State) (p : SrPhase) : (s.withSrPhase p).fault = s.fault := rfl
@[simp] theorem State.withSrPhase_muxPhase (s : State) (p : SrPhase) : (s.withSrPhase p).muxPhase = s.muxPhase := rfl
@[simp] theorem State.withSrPhase_muxPos (s : State) (p : SrPhase) : (s.withSrPhase p).muxPos = s.muxPos := rfl
@[simp] theorem State.withSrPhase_muxDig (s : State) (p : SrPhase) : (s.withSrPhase p).muxDig = s.muxDig := rfl
@[simp] theorem State.withSrPhase_muxUd (s : State) (p : SrPhase) : (s.withSrPhase p).muxUd = s.muxUd := rfl
@[simp] theorem State.withSrPhase_muxDpi (s : State) (p : SrPhase) : (s.withSrPhase p).muxDpi = s.muxDpi := rfl
@[simp] theorem State.withSrPhase_srPhase (s : State) (p : SrPhase) : (s.withSrPhase p).srPhase = p := rfl
@[simp] theorem State.withSrPhase_srFrame (s : State) (p : SrPhase) : (s.withSrPhase p).srFrame = s.srFrame := rfl
@[simp] theorem State.withSrPhase_srCnt (s : State) (p : SrPhase) : (s.withSrPhase p).srCnt = s.srCnt := rfl
@[simp] theorem State.withSrPhase_latch (s : State) (p : SrPhase) : (s.withSrPhase p).latch = s.latch := rfl
@[simp] theorem State.withSrPhase_clk (s : State) (p : SrPhase) : (s.withSrPhase p).clk = s.clk := rfl
@[simp] theorem State.withSrPhase_data (s : State) (p : SrPhase) : (s.withSrPhase p).data = s.data := rfl
@[simp] theorem State.withSrPhase_devChain (s : State) (p : SrPhase) : (s.withSrPhase p).devChain = s.devChain := rfl
@[simp] theorem State.withSrPhase_devSegOut (s : State) (p : SrPhase) : (s.withSrPhase p).devSegOut = s.devSegOut := rfl
@[simp] theorem State.withSrPhase_devEnOut (s : State) (p : SrPhase) : (s.withSrPhase p).devEnOut = s.devEnOut := rfl
@[simp] theorem State.withSrPhase_frames (s : State) (p : SrPhase) : (s.withSrPhase p).frames = s.frames := rfl
@[simp] theorem State.withSrPhase_cfg (s : State) (p : SrPhase) : (s.withSrPhase p).cfg = s.cfg := rfl
@[simp] theorem State.withSrPhase_script (s : State) (p : SrPhase) : (s.withSrPhase p).script = s.script := rfl
@[simp] theorem State.withSrPhase_draws (s : State) (p : SrPhase) : (s.withSrPhase p).draws = s.draws := rfl

@[simp] theorem State.withSrCnt_sec (s : State) (n : BitVec 5) : (s.withSrCnt n).sec = s.sec := rfl
@[simp] theorem State.withSrCnt_min (s : State) (n : BitVec 5) : (s.withSrCnt n).min = s.min := rfl
@[simp] theorem State.withSrCnt_tickPending (s : State) (n : BitVec 5) : (s.withSrCnt n).tickPending = s.tickPending := rfl
@[simp] theorem State.withSrCnt_res (s : State) (n : BitVec 5) : (s.withSrCnt n).res = s.res := rfl
@[simp] theorem State.withSrCnt_resWritten (s : State) (n : BitVec 5) : (s.withSrCnt n).resWritten = s.resWritten := rfl
@[simp] theorem State.withSrCnt_fault (s : State) (n : BitVec 5) : (s.withSrCnt n).fault = s.fault := rfl
@[simp] theorem State.withSrCnt_muxPhase (s : State) (n : BitVec 5) : (s.withSrCnt n).muxPhase = s.muxPhase := rfl
@[simp] theorem State.withSrCnt_muxPos (s : State) (n : BitVec 5) : (s.withSrCnt n).muxPos = s.muxPos := rfl
@[simp] theorem State.withSrCnt_muxDig (s : State) (n : BitVec 5) : (s.withSrCnt n).muxDig = s.muxDig := rfl
@[simp] theorem State.withSrCnt_muxUd (s : State) (n : BitVec 5) : (s.withSrCnt n).muxUd = s.muxUd := rfl
@[simp] theorem State.withSrCnt_muxDpi (s : State) (n : BitVec 5) : (s.withSrCnt n).muxDpi = s.muxDpi := rfl
@[simp] theorem State.withSrCnt_srPhase (s : State) (n : BitVec 5) : (s.withSrCnt n).srPhase = s.srPhase := rfl
@[simp] theorem State.withSrCnt_srFrame (s : State) (n : BitVec 5) : (s.withSrCnt n).srFrame = s.srFrame := rfl
@[simp] theorem State.withSrCnt_srCnt (s : State) (n : BitVec 5) : (s.withSrCnt n).srCnt = n := rfl
@[simp] theorem State.withSrCnt_latch (s : State) (n : BitVec 5) : (s.withSrCnt n).latch = s.latch := rfl
@[simp] theorem State.withSrCnt_clk (s : State) (n : BitVec 5) : (s.withSrCnt n).clk = s.clk := rfl
@[simp] theorem State.withSrCnt_data (s : State) (n : BitVec 5) : (s.withSrCnt n).data = s.data := rfl
@[simp] theorem State.withSrCnt_devChain (s : State) (n : BitVec 5) : (s.withSrCnt n).devChain = s.devChain := rfl
@[simp] theorem State.withSrCnt_devSegOut (s : State) (n : BitVec 5) : (s.withSrCnt n).devSegOut = s.devSegOut := rfl
@[simp] theorem State.withSrCnt_devEnOut (s : State) (n : BitVec 5) : (s.withSrCnt n).devEnOut = s.devEnOut := rfl
@[simp] theorem State.withSrCnt_frames (s : State) (n : BitVec 5) : (s.withSrCnt n).frames = s.frames := rfl
@[simp] theorem State.withSrCnt_cfg (s : State) (n : BitVec 5) : (s.withSrCnt n).cfg = s.cfg := rfl
@[simp] theorem State.withSrCnt_script (s : State) (n : BitVec 5) : (s.withSrCnt n).script = s.script := rfl
@[simp] theorem State.withSrCnt_draws (s : State) (n : BitVec 5) : (s.withSrCnt n).draws = s.draws := rfl

@[simp] theorem State.withSchedule_sec (s : State) (l : List Turn) (n : Nat) : (s.withSchedule l n).sec = s.sec := rfl
@[simp] theorem State.withSchedule_min (s : State) (l : List Turn) (n : Nat) : (s.withSchedule l n).min = s.min := rfl
@[simp] theorem State.withSchedule_tickPending (s : State) (l : List Turn) (n : Nat) : (s.withSchedule l n).tickPending = s.tickPending := rfl
@[simp] theorem State.withSchedule_res (s : State) (l : List Turn) (n : Nat) : (s.withSchedule l n).res = s.res := rfl
@[simp] theorem State.withSchedule_resWritten (s : State) (l : List Turn) (n : Nat) : (s.withSchedule l n).resWritten = s.resWritten := rfl
@[simp] theorem State.withSchedule_fault (s : State) (l : List Turn) (n : Nat) : (s.withSchedule l n).fault = s.fault := rfl
@[simp] theorem State.withSchedule_muxPhase (s : State) (l : List Turn) (n : Nat) : (s.withSchedule l n).muxPhase = s.muxPhase := rfl
@[simp] theorem State.withSchedule_muxPos (s : State) (l : List Turn) (n : Nat) : (s.withSchedule l n).muxPos = s.muxPos := rfl
@[simp] theorem State.withSchedule_muxDig (s : State) (l : List Turn) (n : Nat) : (s.withSchedule l n).muxDig = s.muxDig := rfl
@[simp] theorem State.withSchedule_muxUd (s : State) (l : List Turn) (n : Nat) : (s.withSchedule l n).muxUd = s.muxUd := rfl
@[simp] theorem State.withSchedule_muxDpi (s : State) (l : List Turn) (n : Nat) : (s.withSchedule l n).muxDpi = s.muxDpi := rfl
@[simp] theorem State.withSchedule_srPhase (s : State) (l : List Turn) (n : Nat) : (s.withSchedule l n).srPhase = s.srPhase := rfl
@[simp] theorem State.withSchedule_srFrame (s : State) (l : List Turn) (n : Nat) : (s.withSchedule l n).srFrame = s.srFrame := rfl
@[simp] theorem State.withSchedule_srCnt (s : State) (l : List Turn) (n : Nat) : (s.withSchedule l n).srCnt = s.srCnt := rfl
@[simp] theorem State.withSchedule_latch (s : State) (l : List Turn) (n : Nat) : (s.withSchedule l n).latch = s.latch := rfl
@[simp] theorem State.withSchedule_clk (s : State) (l : List Turn) (n : Nat) : (s.withSchedule l n).clk = s.clk := rfl
@[simp] theorem State.withSchedule_data (s : State) (l : List Turn) (n : Nat) : (s.withSchedule l n).data = s.data := rfl
@[simp] theorem State.withSchedule_devChain (s : State) (l : List Turn) (n : Nat) : (s.withSchedule l n).devChain = s.devChain := rfl
@[simp] theorem State.withSchedule_devSegOut (s : State) (l : List Turn) (n : Nat) : (s.withSchedule l n).devSegOut = s.devSegOut := rfl
@[simp] theorem State.withSchedule_devEnOut (s : State) (l : List Turn) (n : Nat) : (s.withSchedule l n).devEnOut = s.devEnOut := rfl
@[simp] theorem State.withSchedule_frames (s : State) (l : List Turn) (n : Nat) : (s.withSchedule l n).frames = s.frames := rfl
@[simp] theorem State.withSchedule_cfg (s : State) (l : List Turn) (n : Nat) : (s.withSchedule l n).cfg = s.cfg := rfl
@[simp] theorem State.withSchedule_script (s : State) (l : List Turn) (n : Nat) : (s.withSchedule l n).script = l := rfl
@[simp] theorem State.withSchedule_draws (s : State) (l : List Turn) (n : Nat) : (s.withSchedule l n).draws = n := rfl

@[simp] theorem srStart_sec (s : State) (a b : Byte) : (srStart a b s).sec = s.sec := rfl
@[simp] theorem srStart_min (s : State) (a b : Byte) : (srStart a b s).min = s.min := rfl
@[simp] theorem srStart_tickPending (s : State) (a b : Byte) : (srStart a b s).tickPending = s.tickPending := rfl
@[simp] theorem srStart_res (s : State) (a b : Byte) : (srStart a b s).res = s.res := rfl
@[simp] theorem srStart_resWritten (s : State) (a b : Byte) : (srStart a b s).resWritten = s.resWritten := rfl
@[simp] theorem srStart_fault (s : State) (a b : Byte) : (srStart a b s).fault = s.fault := rfl
@[simp] theorem srStart_muxPhase (s : State) (a b : Byte) : (srStart a b s).muxPhase = s.muxPhase := rfl
@[simp] theorem srStart_muxPos (s : State) (a b : Byte) : (srStart a b s).muxPos = s.muxPos := rfl
@[simp] theorem srStart_muxDig (s : State) (a b : Byte) : (srStart a b s).muxDig = s.muxDig := rfl
@[simp] theorem srStart_muxUd (s : State) (a b : Byte) : (srStart a b s).muxUd = s.muxUd := rfl
@[simp] theorem srStart_muxDpi (s : State) (a b : Byte) : (srStart a b s).muxDpi = s.muxDpi := rfl
@[simp] theorem srStart_srPhase (s : State) (a b : Byte) : (srStart a b s).srPhase = .latchLo := rfl
@[simp] theorem srStart_srFrame (s : State) (a b : Byte) : (srStart a b s).srFrame = frameWord a b := rfl
@[simp] theorem srStart_srCnt (s : State) (a b : Byte) : (srStart a b s).srCnt = 0#5 := rfl
@[simp] theorem srStart_latch (s : State) (a b : Byte) : (srStart a b s).latch = s.latch := rfl
@[simp] theorem srStart_clk (s : State) (a b : Byte) : (srStart a b s).clk = s.clk := rfl
@[simp] theorem srStart_data (s : State) (a b : Byte) : (srStart a b s).data = s.data := rfl
@[simp] theorem srStart_devChain (s : State) (a b : Byte) : (srStart a b s).devChain = s.devChain := rfl
@[simp] theorem srStart_devSegOut (s : State) (a b : Byte) : (srStart a b s).devSegOut = s.devSegOut := rfl
@[simp] theorem srStart_devEnOut (s : State) (a b : Byte) : (srStart a b s).devEnOut = s.devEnOut := rfl
@[simp] theorem srStart_frames (s : State) (a b : Byte) : (srStart a b s).frames = s.frames := rfl
@[simp] theorem srStart_cfg (s : State) (a b : Byte) : (srStart a b s).cfg = s.cfg := rfl
@[simp] theorem srStart_script (s : State) (a b : Byte) : (srStart a b s).script = s.script := rfl
@[simp] theorem srStart_draws (s : State) (a b : Byte) : (srStart a b s).draws = s.draws := rfl

@[simp] theorem driveData_sec (s : State) (b : Bool) : (driveData b s).sec = s.sec := rfl
@[simp] theorem driveData_min (s : State) (b : Bool) : (driveData b s).min = s.min := rfl
@[simp] theorem driveData_tickPending (s : State) (b : Bool) : (driveData b s).tickPending = s.tickPending := rfl
@[simp] theorem driveData_res (s : State) (b : Bool) : (driveData b s).res = s.res := rfl
@[simp] theorem driveData_resWritten (s : State) (b : Bool) : (driveData b s).resWritten = s.resWritten := rfl
@[simp] theorem driveData_fault (s : State) (b : Bool) : (driveData b s).fault = s.fault := rfl
@[simp] theorem driveData_muxPhase (s : State) (b : Bool) : (driveData b s).muxPhase = s.muxPhase := rfl
@[simp] theorem driveData_muxPos (s : State) (b : Bool) : (driveData b s).muxPos = s.muxPos := rfl
@[simp] theorem driveData_muxDig (s : State) (b : Bool) : (driveData b s).muxDig = s.muxDig := rfl
@[simp] theorem driveData_muxUd (s : State) (b : Bool) : (driveData b s).muxUd = s.muxUd := rfl
@[simp] theorem driveData_muxDpi (s : State) (b : Bool) : (driveData b s).muxDpi = s.muxDpi := rfl
@[simp] theorem driveData_srPhase (s : State) (b : Bool) : (driveData b s).srPhase = s.srPhase := rfl
@[simp] theorem driveData_srFrame (s : State) (b : Bool) : (driveData b s).srFrame = s.srFrame := rfl
@[simp] theorem driveData_srCnt (s : State) (b : Bool) : (driveData b s).srCnt = s.srCnt := rfl
@[simp] theorem driveData_latch (s : State) (b : Bool) : (driveData b s).latch = s.latch := rfl
@[simp] theorem driveData_clk (s : State) (b : Bool) : (driveData b s).clk = s.clk := rfl
@[simp] theorem driveData_data (s : State) (b : Bool) : (driveData b s).data = b := rfl
@[simp] theorem driveData_devChain (s : State) (b : Bool) : (driveData b s).devChain = s.devChain := rfl
@[simp] theorem driveData_devSegOut (s : State) (b : Bool) : (driveData b s).devSegOut = s.devSegOut := rfl
@[simp] theorem driveData_devEnOut (s : State) (b : Bool) : (driveData b s).devEnOut = s.devEnOut := rfl
@[simp] theorem driveData_frames (s : State) (b : Bool) : (driveData b s).frames = s.frames := rfl
@[simp] theorem driveData_cfg (s : State) (b : Bool) : (driveData b s).cfg = s.cfg := rfl
@[simp] theorem driveData_script (s : State) (b : Bool) : (driveData b s).script = s.script := rfl
@[simp] theorem driveData_draws (s : State) (b : Bool) : (driveData b s).draws = s.draws := rfl

@[simp] theorem serviceTick_sec (s : State) : (serviceTick s).sec = (nextTime s.min s.sec).2 := rfl
@[simp] theorem serviceTick_min (s : State) : (serviceTick s).min = (nextTime s.min s.sec).1 := rfl
@[simp] theorem serviceTick_tickPending (s : State) : (serviceTick s).tickPending = false := rfl
@[simp] theorem serviceTick_res (s : State) : (serviceTick s).res = s.res := rfl
@[simp] theorem serviceTick_resWritten (s : State) : (serviceTick s).resWritten = s.resWritten := rfl
@[simp] theorem serviceTick_fault (s : State) : (serviceTick s).fault = s.fault := rfl
@[simp] theorem serviceTick_muxPhase (s : State) : (serviceTick s).muxPhase = s.muxPhase := rfl
@[simp] theorem serviceTick_muxPos (s : State) : (serviceTick s).muxPos = s.muxPos := rfl
@[simp] theorem serviceTick_muxDig (s : State) : (serviceTick s).muxDig = s.muxDig := rfl
@[simp] theorem serviceTick_muxUd (s : State) : (serviceTick s).muxUd = s.muxUd := rfl
@[simp] theorem serviceTick_muxDpi (s : State) : (serviceTick s).muxDpi = s.muxDpi := rfl
@[simp] theorem serviceTick_srPhase (s : State) : (serviceTick s).srPhase = s.srPhase := rfl
@[simp] theorem serviceTick_srFrame (s : State) : (serviceTick s).srFrame = s.srFrame := rfl
@[simp] theorem serviceTick_srCnt (s : State) : (serviceTick s).srCnt = s.srCnt := rfl
@[simp] theorem serviceTick_latch (s : State) : (serviceTick s).latch = s.latch := rfl
@[simp] theorem serviceTick_clk (s : State) : (serviceTick s).clk = s.clk := rfl
@[simp] theorem serviceTick_data (s : State) : (serviceTick s).data = s.data := rfl
@[simp] theorem serviceTick_devChain (s : State) : (serviceTick s).devChain = s.devChain := rfl
@[simp] theorem serviceTick_devSegOut (s : State) : (serviceTick s).devSegOut = s.devSegOut := rfl
@[simp] theorem serviceTick_devEnOut (s : State) : (serviceTick s).devEnOut = s.devEnOut := rfl
@[simp] theorem serviceTick_frames (s : State) : (serviceTick s).frames = s.frames := rfl
@[simp] theorem serviceTick_cfg (s : State) : (serviceTick s).cfg = s.cfg := rfl
@[simp] theorem serviceTick_script (s : State) : (serviceTick s).script = s.script := rfl
@[simp] theorem serviceTick_draws (s : State) : (serviceTick s).draws = s.draws := rfl

@[simp] theorem driveClk_sec (s : State) (b : Bool) : (driveClk b s).sec = s.sec := by
  unfold driveClk; split <;> rfl
@[simp] theorem driveClk_min (s : State) (b : Bool) : (driveClk b s).min = s.min := by
  unfold driveClk; split <;> rfl
@[simp] theorem driveClk_tickPending (s : State) (b : Bool) : (driveClk b s).tickPending = s.tickPending := by
  unfold driveClk; split <;> rfl
@[simp] theorem driveClk_res (s : State) (b : Bool) : (driveClk b s).res = s.res := by
  unfold driveClk; split <;> rfl
@[simp] theorem driveClk_resWritten (s : State) (b : Bool) : (driveClk b s).resWritten = s.resWritten := by
  unfold driveClk; split <;> rfl
@[simp] theorem driveClk_fault (s : State) (b : Bool) : (driveClk b s).fault = s.fault := by
  unfold driveClk; split <;> rfl
@[simp] theorem driveClk_muxPhase (s : State) (b : Bool) : (driveClk b s).muxPhase = s.muxPhase := by
  unfold driveClk; split <;> rfl
@[simp] theorem driveClk_muxPos (s : State) (b : Bool) : (driveClk b s).muxPos = s.muxPos := by
  unfold driveClk; split <;> rfl
@[simp] theorem driveClk_muxDig (s : State) (b : Bool) : (driveClk b s).muxDig = s.muxDig := by
  unfold driveClk; split <;> rfl
@[simp] theorem driveClk_muxUd (s : State) (b : Bool) : (driveClk b s).muxUd = s.muxUd := by
  unfold driveClk; split <;> rfl
@[simp] theorem driveClk_muxDpi (s : State) (b : Bool) : (driveClk b s).muxDpi = s.muxDpi := by
  unfold driveClk; split <;> rfl
@[simp] theorem driveClk_srPhase (s : State) (b : Bool) : (driveClk b s).srPhase = s.srPhase := by
  unfold driveClk; split <;> rfl
@[simp] theorem driveClk_srFrame (s : State) (b : Bool) : (driveClk b s).srFrame = s.srFrame := by
  unfold driveClk; split <;> rfl
@[simp] theorem driveClk_srCnt (s : State) (b : Bool) : (driveClk b s).srCnt = s.srCnt := by
  unfold driveClk; split <;> rfl
@[simp] theorem driveClk_latch (s : State) (b : Bool) : (driveClk b s).latch = s.latch := by
  unfold driveClk; split <;> rfl
@[simp] theorem driveClk_clk (s : State) (b : Bool) : (driveClk b s).clk = b := by
  unfold driveClk; split <;> rfl
@[simp] theorem driveClk_data (s : State) (b : Bool) : (driveClk b s).data = s.data := by
  unfold driveClk; split <;> rfl
@[simp] theorem driveClk_devSegOut (s : State) (b : Bool) : (driveClk b s).devSegOut = s.devSegOut := by
  unfold driveClk; split <;> rfl
@[simp] theorem driveClk_devEnOut (s : State) (b : Bool) : (driveClk b s).devEnOut = s.devEnOut := by
  unfold driveClk; split <;> rfl
@[simp] theorem driveClk_frames (s : State) (b : Bool) : (driveClk b s).frames = s.frames := by
  unfold driveClk; split <;> rfl
@[simp] theorem driveClk_cfg (s : State) (b : Bool) : (driveClk b s).cfg = s.cfg := by
  unfold driveClk; split <;> rfl
@[simp] theorem driveClk_script (s : State) (b : Bool) : (driveClk b s).script = s.script := by
  unfold driveClk; split <;> rfl
@[simp] theorem driveClk_draws (s : State) (b : Bool) : (driveClk b s).draws = s.draws := by
  unfold driveClk; split <;> rfl

@[simp] theorem driveLatch_sec (s : State) (b : Bool) : (driveLatch b s).sec = s.sec := by
  unfold driveLatch; split <;> rfl
@[simp] theorem driveLatch_min (s : State) (b : Bool) : (driveLatch b s).min = s.min := by
  unfold driveLatch; split <;> rfl
@[simp] theorem driveLatch_tickPending (s : State) (b : Bool) : (driveLatch b s).tickPending = s.tickPending := by
  unfold driveLatch; split <;> rfl
@[simp] theorem driveLatch_res (s : State) (b : Bool) : (driveLatch b s).res = s.res := by
  unfold driveLatch; split <;> rfl
@[simp] theorem driveLatch_resWritten (s : State) (b : Bool) : (driveLatch b s).resWritten = s.resWritten := by
  unfold driveLatch; split <;> rfl
@[simp] theorem driveLatch_fault (s : State) (b : Bool) : (driveLatch b s).fault = s.fault := by
  unfold driveLatch; split <;> rfl
@[simp] theorem driveLatch_muxPhase (s : State) (b : Bool) : (driveLatch b s).muxPhase = s.muxPhase := by
  unfold driveLatch; split <;> rfl
@[simp] theorem driveLatch_muxPos (s : State) (b : Bool) : (driveLatch b s).muxPos = s.muxPos := by
  unfold driveLatch; split <;> rfl
@[simp] theorem driveLatch_muxDig (s : State) (b : Bool) : (driveLatch b s).muxDig = s.muxDig := by
  unfold driveLatch; split <;> rfl
@[simp] theorem driveLatch_muxUd (s : State) (b : Bool) : (driveLatch b s).muxUd = s.muxUd := by
  unfold driveLatch; split <;> rfl
@[simp] theorem driveLatch_muxDpi (s : State) (b : Bool) : (driveLatch b s).muxDpi = s.muxDpi := by
  unfold driveLatch; split <;> rfl
@[simp] theorem driveLatch_srPhase (s : State) (b : Bool) : (driveLatch b s).srPhase = s.srPhase := by
  unfold driveLatch; split <;> rfl
@[simp] theorem driveLatch_srFrame (s : State) (b : Bool) : (driveLatch b s).srFrame = s.srFrame := by
  unfold driveLatch; split <;> rfl
@[simp] theorem driveLatch_srCnt (s : State) (b : Bool) : (driveLatch b s).srCnt = s.srCnt := by
  unfold driveLatch; split <;> rfl
@[simp] theorem driveLatch_latch (s : State) (b : Bool) : (driveLatch b s).latch = b := by
  unfold driveLatch; split <;> rfl
@[simp] theorem driveLatch_clk (s : State) (b : Bool) : (driveLatch b s).clk = s.clk := by
  unfold driveLatch; split <;> rfl
@[simp] theorem driveLatch_data (s : State) (b : Bool) : (driveLatch b s).data = s.data := by
  unfold driveLatch; split <;> rfl
@[simp] theorem driveLatch_devChain (s : State) (b : Bool) : (driveLatch b s).devChain = s.devChain := by
  unfold driveLatch; split <;> rfl
@[simp] theorem driveLatch_cfg (s : State) (b : Bool) : (driveLatch b s).cfg = s.cfg := by
  unfold driveLatch; split <;> rfl
@[simp] theorem driveLatch_script (s : State) (b : Bool) : (driveLatch b s).script = s.script := by
  unfold driveLatch; split <;> rfl
@[simp] theorem driveLatch_draws (s : State) (b : Bool) : (driveLatch b s).draws = s.draws := by
  unfold driveLatch; split <;> rfl

/-- The chain after `drive(CLK, b)`: shifted on a rising edge only (41_shift_register_bus R117). -/
@[simp] theorem driveClk_devChain (s : State) (b : Bool) :
    (driveClk b s).devChain = if b && !s.clk then shiftIn s.devChain s.data else s.devChain := by
  unfold driveClk; split <;> rfl

/-- The segment outputs after `drive(LATCH, b)`: loaded on a rising edge only (41_shift_register_bus R118). -/
@[simp] theorem driveLatch_devSegOut (s : State) (b : Bool) :
    (driveLatch b s).devSegOut = if b && !s.latch then highByte s.devChain else s.devSegOut := by
  unfold driveLatch; split <;> rfl

/-- The enable outputs after `drive(LATCH, b)` (41_shift_register_bus R118). -/
@[simp] theorem driveLatch_devEnOut (s : State) (b : Bool) :
    (driveLatch b s).devEnOut = if b && !s.latch then lowByte s.devChain else s.devEnOut := by
  unfold driveLatch; split <;> rfl

/-- FRAMES after `drive(LATCH, b)`: one frame more on a rising edge (41_shift_register_bus R118). -/
@[simp] theorem driveLatch_frames (s : State) (b : Bool) :
    (driveLatch b s).frames =
      if b && !s.latch then s.frames ++ [(highByte s.devChain, lowByte s.devChain)] else s.frames := by
  unfold driveLatch; split <;> rfl

end Sys2Proof.Machine
end

