-- ==== Sys2Proof/Laws/Ops.lean ====
section
/-! SUPPORT. For each shared operation, what it can do, said once: the BUSY check, the internal steps, a turn,
the step of the whole machine, and the bits of the segments. -/

namespace Sys2Proof.Machine

@[simp] theorem busy_eq_false (s : State) : busy s = false ↔ s.muxPhase = .idle ∧ s.srPhase = .idle := by
  simp [busy]

/-- While BUSY a command-port command only raises BUSY_OVERLAP. -/
theorem whenIdle_of_busy (i : Instr) (s : State) (body : Result) (h : busy s = true) :
    whenIdle i s body = .next (s.withFault (.busyOverlap (encode i))) := by
  simp [whenIdle, h, raiseFault]

/-- While not BUSY it is its body. -/
theorem whenIdle_of_idle (i : Instr) (s : State) (body : Result) (h : busy s = false) :
    whenIdle i s body = body := by
  simp [whenIdle, h]

/-- If a guarded command answers a next state, either it is the BUSY_OVERLAP or the body answered it. -/
theorem whenIdle_next {i : Instr} {s t : State} {body : Result} (h : whenIdle i s body = .next t) :
    (busy s = true ∧ t = s.withFault (.busyOverlap (encode i))) ∨ (busy s = false ∧ body = .next t) := by
  unfold whenIdle at h
  split at h
  · next hb =>
    refine Or.inl ⟨hb, ?_⟩
    simpa [raiseFault, eq_comm] using h
  · next hb => exact Or.inr ⟨by simpa using hb, h⟩

/-- ENC: what it can answer (40_segment_encoder R100). -/
theorem execEnc_next {dp : BitVec 1} {digit : BitVec 4} {s t : State} (h : execEnc dp digit s = .next t) :
    (busy s = true ∧ t = s.withFault (.busyOverlap (encode (.enc dp digit)))) ∨
    (busy s = false ∧ digitOperand digit = none ∧ t = s.withFault (.digitRange digit)) ∨
    (busy s = false ∧ ∃ d, digitOperand digit = some d ∧ t = s.withRes ((segEncode s.cfg d dp).setWidth 16)) := by
  rcases whenIdle_next h with hb | ⟨hb, h⟩
  · exact Or.inl hb
  · cases hd : digitOperand digit with
    | none =>
      rw [hd] at h
      exact Or.inr (Or.inl ⟨hb, rfl, by simpa [raiseFault, eq_comm] using h⟩)
    | some d =>
      rw [hd] at h
      exact Or.inr (Or.inr ⟨hb, d, rfl, by simpa [eq_comm] using h⟩)

/-- COMMIT: what it can answer (41_shift_register_bus R110). -/
theorem execCommit_next {seg en : Byte} {s t : State} (h : execCommit seg en s = .next t) :
    (busy s = true ∧ t = s.withFault (.busyOverlap (encode (.commit seg en)))) ∨
    (busy s = false ∧ t = srStart seg en s) := by
  rcases whenIdle_next h with hb | ⟨hb, h⟩
  · exact Or.inl hb
  · exact Or.inr ⟨hb, by simpa [eq_comm] using h⟩

/-- RENDER: what it can answer (42_display_multiplexer R131). -/
theorem execRender_next {ud : BitVec 1} {dpi : BitVec 2} {value : Half} {s t : State}
    (h : execRender ud dpi value s = .next t) :
    (busy s = true ∧ t = s.withFault (.busyOverlap (encode (.render ud dpi value)))) ∨
    (busy s = false ∧ renderOperand s.cfg.negPolicy (renderValue value) = none ∧
      t = s.withFault (.negValue (renderValue value))) ∨
    (busy s = false ∧ ∃ u, renderOperand s.cfg.negPolicy (renderValue value) = some u ∧
      t = s.withRender (decimalDigits u) ud dpi) := by
  rcases whenIdle_next h with hb | ⟨hb, h⟩
  · exact Or.inl hb
  · cases hu : renderOperand s.cfg.negPolicy (renderValue value) with
    | none =>
      rw [hu] at h
      exact Or.inr (Or.inl ⟨hb, rfl, by simpa [raiseFault, eq_comm] using h⟩)
    | some u =>
      rw [hu] at h
      exact Or.inr (Or.inr ⟨hb, u, rfl, by simpa [eq_comm] using h⟩)

/-- PERIOD: what it answers (43_clock_timer R152). -/
theorem execPeriod_next {s t : State} (h : execPeriod s = .next t) : t = s.withTickPending true := by
  simpa [execPeriod, eq_comm] using h

/-- CLEAR: what it can answer (43_clock_timer R154). -/
theorem execClear_next {s t : State} (h : execClear s = .next t) :
    (busy s = true ∧ t = s.withFault (.busyOverlap (encode .clear))) ∨ (busy s = false ∧ t = s.withTime 0 0) := by
  rcases whenIdle_next h with hb | ⟨hb, h⟩
  · exact Or.inl hb
  · exact Or.inr ⟨hb, by simpa [eq_comm] using h⟩

/-- READT: what it can answer (43_clock_timer R156). -/
theorem execReadt_next {s t : State} (h : execReadt s = .next t) :
    (busy s = true ∧ t = s.withFault (.busyOverlap (encode .readt))) ∨
    (busy s = false ∧ t = s.withRes (timeWord s.min s.sec)) := by
  rcases whenIdle_next h with hb | ⟨hb, h⟩
  · exact Or.inl hb
  · exact Or.inr ⟨hb, by simpa [eq_comm] using h⟩

/-- Every meaning answers a next state: a fault is a next state with FAULT written (60_exceptions R170). -/
theorem exec_answers_next (i : Instr) (s : State) : ∃ t, exec i s = .next t := by
  cases i <;>
    simp only [exec, execEnc, execCommit, execRender, execPeriod, execClear, execReadt, whenIdle, raiseFault] <;>
    (repeat' split) <;> exact ⟨_, rfl⟩

/-- Every turn answers a next state. -/
theorem takeTurn_answers_next (t : Turn) (s : State) : ∃ u, takeTurn t s = .next u := by
  cases t with
  | host w =>
    simp only [takeTurn, presentWord]
    split
    · exact exec_answers_next _ _
    · exact ⟨_, rfl⟩
  | hostRead =>
    simp only [takeTurn, hostRead]
    split <;> exact ⟨_, rfl⟩
  | timerPort w =>
    simp only [takeTurn, presentWord]
    split
    · exact exec_answers_next _ _
    · exact ⟨_, rfl⟩
  | internal k => exact ⟨_, rfl⟩

/-- The step is the turn taken, when nothing stops the machine. -/
theorem step_of_running (s : State) (hf : s.fault = none) (hc : s.cfg.wellFormed = true) :
    step s = takeTurn (nextTurn s) (afterTurn s) := by
  simp [step, advance, hf, hc]

/-- If the step answers a next state, the machine was running and the turn answered it. -/
theorem step_next {s t : State} (h : step s = .next t) :
    s.fault = none ∧ s.cfg.wellFormed = true ∧ takeTurn (nextTurn s) (afterTurn s) = .next t := by
  unfold step advance at h
  split at h
  · cases h
  · next hf =>
    split at h
    · next hc => exact ⟨hf, hc, h⟩
    · cases h

/-- Taking a turn off the schedule changes the schedule alone. -/
theorem afterTurn_eq (s : State) : ∃ l n, afterTurn s = s.withSchedule l n := by
  unfold afterTurn
  split <;> exact ⟨_, _, rfl⟩

/-- The serializer steps: what each can answer (41_shift_register_bus R112 to R116). -/
theorem stepSrLatchLo_some {s t : State} (h : stepSrLatchLo s = some t) :
    s.srPhase = .latchLo ∧ t = (driveLatch false s).withSrPhase .data := by
  unfold stepSrLatchLo at h
  split at h
  · exact ⟨by assumption, by simpa [eq_comm] using h⟩
  · cases h

theorem stepSrData_some {s t : State} (h : stepSrData s = some t) :
    s.srPhase = .data ∧ t = (driveData (frameBit s.srFrame s.srCnt) s).withSrPhase .clkHi := by
  unfold stepSrData at h
  split at h
  · exact ⟨by assumption, by simpa [eq_comm] using h⟩
  · cases h

theorem stepSrClkHi_some {s t : State} (h : stepSrClkHi s = some t) :
    s.srPhase = .clkHi ∧ t = (driveClk true s).withSrPhase .clkLo := by
  unfold stepSrClkHi at h
  split at h
  · exact ⟨by assumption, by simpa [eq_comm] using h⟩
  · cases h

theorem stepSrClkLo_some {s t : State} (h : stepSrClkLo s = some t) :
    s.srPhase = .clkLo ∧ t = ((driveClk false s).withSrCnt (s.srCnt + 1#5)).withSrPhase
      (if s.srCnt + 1#5 = 16#5 then .latchHi else .data) := by
  unfold stepSrClkLo at h
  split at h
  · exact ⟨by assumption, by simpa only [Option.some.injEq, eq_comm] using h⟩
  · cases h

theorem stepSrLatchHi_some {s t : State} (h : stepSrLatchHi s = some t) :
    s.srPhase = .latchHi ∧ t = (driveLatch true s).withSrPhase .idle := by
  unfold stepSrLatchHi at h
  split at h
  · exact ⟨by assumption, by simpa [eq_comm] using h⟩
  · cases h

/-- The sequencer steps: what each can answer (42_display_multiplexer R133 to R135). -/
theorem stepMuxLoad_some {s t : State} (h : stepMuxLoad s = some t) :
    s.muxPhase = .load ∧ s.srPhase = .idle ∧
      t = (srStart (currentFrame s).1 (currentFrame s).2 s).withMuxPhase .send := by
  unfold stepMuxLoad at h
  split at h
  · next hp => exact ⟨hp.1, hp.2, by simpa [eq_comm] using h⟩
  · cases h

theorem stepMuxSent_some {s t : State} (h : stepMuxSent s = some t) :
    s.muxPhase = .send ∧ s.srPhase = .idle ∧ t = s.withMuxPhase .dwell := by
  unfold stepMuxSent at h
  split at h
  · next hp => exact ⟨hp.1, hp.2, by simpa [eq_comm] using h⟩
  · cases h

theorem stepDwellDone_some {s t : State} (h : stepDwellDone s = some t) :
    s.muxPhase = .dwell ∧
      ((s.muxPos = 3#2 ∧ t = s.withMuxPhase .idle) ∨
        (s.muxPos ≠ 3#2 ∧ t = (s.withMuxPos (s.muxPos + 1#2)).withMuxPhase .load)) := by
  unfold stepDwellDone at h
  split at h
  · next hp =>
    refine ⟨hp, ?_⟩
    split at h
    · exact Or.inl ⟨by assumption, by simpa [eq_comm] using h⟩
    · exact Or.inr ⟨by assumption, by simpa [eq_comm] using h⟩
  · cases h

/-- TICK: what it can answer (43_clock_timer R150). -/
theorem stepTick_some {s t : State} (h : stepTick s = some t) : s.tickPending = true ∧ t = serviceTick s := by
  unfold stepTick at h
  split at h
  · exact ⟨by assumption, by simpa [eq_comm] using h⟩
  · cases h

/-- In a one-to-one assignment a bit tells its segment (10_state R32). -/
theorem segmentBit_injective {c : Config} (h : c.segmentsDistinct = true) {x y : Segment}
    (hxy : segmentBit c x = segmentBit c y) : x = y := by
  obtain ⟨_, ⟨⟨l⟩, hl⟩, _, _, _, _, _⟩ := c
  simp only [Config.segmentsDistinct, Vector.toList_mk, decide_eq_true_eq] at h
  match l, hl with
  | [_, _, _, _, _, _, _], _ =>
    cases x <;> cases y <;> first | rfl | (exfalso; simp_all [segmentBit, Vector.get])

end Sys2Proof.Machine
end

