-- ==== Sys2Proof/Laws/PerInstr.lean ====
section
/-! SUPPORT. A family of statements made per command: the word of a command matches its own row of the opcode table
(30_encoding R83). -/

namespace Sys2Proof.Laws.OpcodeRow

/-- The encoded word of a command matches the match and mask of its row (30_encoding R83). -/
def Statement (i : Instr) : Prop :=
  encode i &&& (opcodeRow i).2 = (opcodeRow i).1

theorem enc (dp : BitVec 1) (digit : BitVec 4) : Statement (.enc dp digit) := by
  revert dp digit; unfold Statement; decide

theorem commit (seg en : Byte) : Statement (.commit seg en) := by
  simp only [Statement, encode, opcodeRow]
  ext k hk
  interval_cases k <;> simp

theorem render (ud : BitVec 1) (dpi : BitVec 2) (value : Half) : Statement (.render ud dpi value) := by
  simp only [Statement, encode, opcodeRow]
  ext k hk
  interval_cases k <;> simp

theorem period : Statement .period := by
  unfold Statement; decide

theorem clear : Statement .clear := by
  unfold Statement; decide

theorem readt : Statement .readt := by
  unfold Statement; decide

end Sys2Proof.Laws.OpcodeRow
end

