-- ==== Sys2Proof/Laws/Steps.lean ====
section
/-! SUPPORT. What a step of the whole machine can do, said once: `Effect` has one constructor per transition of
spec/, and every step that answers a next state is one of them. -/

namespace Sys2Proof.Machine

/-- The transitions of the block: `Effect turn s t` says that `turn`, taken in `s` (its schedule already advanced),
leads to `t`. -/
inductive Effect : Turn → State → State → Prop where
  /-- A fault raised by a word or a read (60_exceptions R170). -/
  | faulted (turn : Turn) (s : State) (r : Fault) : Effect turn s (s.withFault r)
  /-- The HOST's read of a written RES. -/
  | read (s : State) (h : s.resWritten = true) : Effect .hostRead s s
  /-- An internal step that is not enabled. -/
  | passed (k : Internal) (s : State) (h : runInternal k s = none) : Effect (.internal k) s s
  | enc (w : Word) (s : State) (dp : BitVec 1) (digit : BitVec 4) (d : Fin 10)
      (hw : decode .command w = .ok (.enc dp digit)) (hb : busy s = false) (hd : digitOperand digit = some d) :
      Effect (.host w) s (s.withRes ((segEncode s.cfg d dp).setWidth 16))
  | commit (w : Word) (s : State) (seg en : Byte) (hw : decode .command w = .ok (.commit seg en))
      (hb : busy s = false) : Effect (.host w) s (srStart seg en s)
  | render (w : Word) (s : State) (ud : BitVec 1) (dpi : BitVec 2) (value : Half) (u : Nat)
      (hw : decode .command w = .ok (.render ud dpi value)) (hb : busy s = false)
      (hu : renderOperand s.cfg.negPolicy (renderValue value) = some u) :
      Effect (.host w) s (s.withRender (decimalDigits u) ud dpi)
  | period (w : Word) (s : State) (hw : decode .timer w = .ok .period) :
      Effect (.timerPort w) s (s.withTickPending true)
  | clear (w : Word) (s : State) (hw : decode .command w = .ok .clear) (hb : busy s = false) :
      Effect (.host w) s (s.withTime 0 0)
  | readt (w : Word) (s : State) (hw : decode .command w = .ok .readt) (hb : busy s = false) :
      Effect (.host w) s (s.withRes (timeWord s.min s.sec))
  | tick (s : State) (h : s.tickPending = true) : Effect (.internal .tick) s (serviceTick s)
  | muxLoad (s : State) (hm : s.muxPhase = .load) (hs : s.srPhase = .idle) :
      Effect (.internal .muxLoad) s ((srStart (currentFrame s).1 (currentFrame s).2 s).withMuxPhase .send)
  | muxSent (s : State) (hm : s.muxPhase = .send) (hs : s.srPhase = .idle) :
      Effect (.internal .muxSent) s (s.withMuxPhase .dwell)
  | dwellLast (s : State) (hm : s.muxPhase = .dwell) (hp : s.muxPos = 3#2) :
      Effect (.internal .dwellDone) s (s.withMuxPhase .idle)
  | dwellNext (s : State) (hm : s.muxPhase = .dwell) (hp : s.muxPos ≠ 3#2) :
      Effect (.internal .dwellDone) s ((s.withMuxPos (s.muxPos + 1#2)).withMuxPhase .load)
  | srLatchLo (s : State) (h : s.srPhase = .latchLo) :
      Effect (.internal .srLatchLo) s ((driveLatch false s).withSrPhase .data)
  | srData (s : State) (h : s.srPhase = .data) :
      Effect (.internal .srData) s ((driveData (frameBit s.srFrame s.srCnt) s).withSrPhase .clkHi)
  | srClkHi (s : State) (h : s.srPhase = .clkHi) :
      Effect (.internal .srClkHi) s ((driveClk true s).withSrPhase .clkLo)
  | srClkLo (s : State) (h : s.srPhase = .clkLo) :
      Effect (.internal .srClkLo) s (((driveClk false s).withSrCnt (s.srCnt + 1#5)).withSrPhase
        (if s.srCnt + 1#5 = 16#5 then .latchHi else .data))
  | srLatchHi (s : State) (h : s.srPhase = .latchHi) :
      Effect (.internal .srLatchHi) s ((driveLatch true s).withSrPhase .idle)

/-- A word that decodes came on the port of its command (30_encoding R78). -/
theorem decode_ok_port {p : Port} {w : Word} {i : Instr} (h : decode p w = .ok i) : i.port = p := by
  unfold decode at h
  split at h
  · cases h
  · split at h
    · cases h; assumption
    · cases h

/-- A command on the command port has the effect of its meaning. -/
theorem effect_of_host {w : Word} {s t : State} (h : presentWord .command w s = .next t) :
    Effect (.host w) s t := by
  unfold presentWord at h
  split at h
  · next i hw =>
    cases i with
    | enc dp digit =>
      rcases execEnc_next h with ⟨_, rfl⟩ | ⟨_, _, rfl⟩ | ⟨hb, d, hd, rfl⟩
      · exact .faulted _ _ _
      · exact .faulted _ _ _
      · exact .enc w s dp digit d hw hb hd
    | commit seg en =>
      rcases execCommit_next h with ⟨_, rfl⟩ | ⟨hb, rfl⟩
      · exact .faulted _ _ _
      · exact .commit w s seg en hw hb
    | render ud dpi value =>
      rcases execRender_next h with ⟨_, rfl⟩ | ⟨_, _, rfl⟩ | ⟨hb, u, hu, rfl⟩
      · exact .faulted _ _ _
      · exact .faulted _ _ _
      · exact .render w s ud dpi value u hw hb hu
    | period => exact absurd (decode_ok_port hw) (by decide)
    | clear =>
      rcases execClear_next h with ⟨_, rfl⟩ | ⟨hb, rfl⟩
      · exact .faulted _ _ _
      · exact .clear w s hw hb
    | readt =>
      rcases execReadt_next h with ⟨_, rfl⟩ | ⟨hb, rfl⟩
      · exact .faulted _ _ _
      · exact .readt w s hw hb
  · cases h
    exact .faulted _ _ _

/-- A word on the timer port is a period or a fault. -/
theorem effect_of_timerPort {w : Word} {s t : State} (h : presentWord .timer w s = .next t) :
    Effect (.timerPort w) s t := by
  unfold presentWord at h
  split at h
  · next i hw =>
    have hp := decode_ok_port hw
    cases i with
    | period => rw [execPeriod_next h]; exact .period w s hw
    | enc _ _ => cases hp
    | commit _ _ => cases hp
    | render _ _ _ => cases hp
    | clear => cases hp
    | readt => cases hp
  · cases h
    exact .faulted _ _ _

/-- An enabled internal step has its effect. -/
theorem effect_of_internal {k : Internal} {s t : State} (h : runInternal k s = some t) :
    Effect (.internal k) s t := by
  cases k with
  | tick => obtain ⟨hp, rfl⟩ := stepTick_some h; exact .tick s hp
  | muxLoad => obtain ⟨hm, hs, rfl⟩ := stepMuxLoad_some h; exact .muxLoad s hm hs
  | muxSent => obtain ⟨hm, hs, rfl⟩ := stepMuxSent_some h; exact .muxSent s hm hs
  | dwellDone =>
    obtain ⟨hm, ⟨hp, rfl⟩ | ⟨hp, rfl⟩⟩ := stepDwellDone_some h
    · exact .dwellLast s hm hp
    · exact .dwellNext s hm hp
  | srLatchLo => obtain ⟨hp, rfl⟩ := stepSrLatchLo_some h; exact .srLatchLo s hp
  | srData => obtain ⟨hp, rfl⟩ := stepSrData_some h; exact .srData s hp
  | srClkHi => obtain ⟨hp, rfl⟩ := stepSrClkHi_some h; exact .srClkHi s hp
  | srClkLo => obtain ⟨hp, rfl⟩ := stepSrClkLo_some h; exact .srClkLo s hp
  | srLatchHi => obtain ⟨hp, rfl⟩ := stepSrLatchHi_some h; exact .srLatchHi s hp

/-- Every turn that answers a next state has one of the effects. -/
theorem effect_of_turn {turn : Turn} {s t : State} (h : takeTurn turn s = .next t) : Effect turn s t := by
  cases turn with
  | host w => exact effect_of_host h
  | timerPort w => exact effect_of_timerPort h
  | hostRead =>
    simp only [takeTurn, hostRead, readRes] at h
    by_cases hw : s.resWritten = true
    · simp [hw] at h; exact h ▸ .read s hw
    · simp [hw] at h
      cases h
      exact .faulted _ _ _
  | internal k =>
    cases h
    cases hk : runInternal k s with
    | none => exact .passed k s hk
    | some u => exact effect_of_internal hk

/-- What a step can do: the machine was running, and the next turn had one of the effects on the state with its
schedule advanced. -/
theorem step_effect {s t : State} (h : step s = .next t) :
    Running s ∧ ∃ l n, Effect (nextTurn s) (s.withSchedule l n) t := by
  obtain ⟨hf, hc, ht⟩ := step_next h
  obtain ⟨l, n, e⟩ := afterTurn_eq s
  exact ⟨⟨hf, hc⟩, l, n, effect_of_turn (e ▸ ht)⟩

/-- A scripted step is the turn at the head of the script. -/
theorem step_scripted (s : State) (turn : Turn) (rest : List Turn) (hr : Running s) (h : s.script = turn :: rest) :
    step s = takeTurn turn (s.withSchedule rest s.draws) := by
  rw [step_of_running s hr.1 hr.2]
  simp [nextTurn, afterTurn, h]

end Sys2Proof.Machine
end

