-- ==== Sys2Proof/Tests/Slice0.lean ====
section
/-! SUPPORT. Small tests with expected values from spec/95_test_vectors, the checks' smoke tests, and a witness for
the hypotheses of every statement that has some. -/

namespace Sys2Proof.Tests

open Sys2Proof.Machine

/-! The checks of 00_scope R10: the default passes, and one ill-formed configuration per check is refused. -/

theorem test_default_config_wellFormed : defaultConfig.wellFormed = true := by decide

/-- Check (1): an entry whose DP bit is 0. -/
theorem test_config_dp_clear_refused :
    ({ defaultConfig with dpBit := 3 } : Config).wellFormed = false := by decide

/-- Check (2): a mask with five bits set (91_not_in_source N3's 0xF1). -/
theorem test_config_mask_not_oneHot_refused :
    ({ defaultConfig with enableMask := #v[0xF1#8, 0x02#8, 0x04#8, 0x08#8] } : Config).wellFormed = false := by decide

/-- Check (3): a mask used twice. -/
theorem test_config_mask_repeated_refused :
    ({ defaultConfig with enableMask := #v[0x01#8, 0x02#8, 0x02#8, 0x08#8] } : Config).wellFormed = false := by decide

/-- The assignment check (log entry 26): the default passes, a point on the bit of d does not. -/
theorem test_config_assignment_distinct :
    defaultConfig.segmentsDistinct = true ∧
    ({ defaultConfig with dpBit := 3 } : Config).segmentsDistinct = false := by decide

/-! Words written out from 30_encoding R73 to R76, bit 31 first. -/

theorem test_decode_enc : decode .command 0b0001_00000000000000000000000_1_0010#32 = .ok (.enc 1#1 2#4) := by decide
theorem test_decode_commit :
    decode .command 0b0010_000000000000_10100100_00000010#32 = .ok (.commit 0xA4#8 0x02#8) := by decide
/-- DEC-8. -/
theorem test_decode_render :
    decode .command 0b0011_1_00_000000000_0001011000101110#32 = .ok (.render 1#1 0#2 5678#16) := by decide
theorem test_decode_period : decode .timer 0b0100_0000000000000000000000000000#32 = .ok .period := by decide
theorem test_decode_clear : decode .command 0b0101_0000000000000000000000000000#32 = .ok .clear := by decide
theorem test_decode_readt : decode .command 0b0110_0000000000000000000000000000#32 = .ok .readt := by decide
/-- DEC-2. -/
theorem test_decode_illegal_op :
    decode .command 0x70000000#32 = .error (.illegalCmd 0x70000000#32) := by decide
/-- DEC-7. -/
theorem test_decode_reserved :
    decode .command 0x30010000#32 = .error (.reservedNonzero 0x30010000#32) := by decide
/-- DEC-9. -/
theorem test_decode_period_on_command_port :
    decode .command 0x40000000#32 = .error (.illegalCmd 0x40000000#32) := by decide
/-- DEC-10. -/
theorem test_decode_clear_on_timer_port :
    decode .timer 0x50000000#32 = .error (.illegalCmd 0x50000000#32) := by decide
/-- R-1234D3's word. -/
theorem test_encode_render : encode (.render 1#1 3#2 1234#16) = 0x3E0004D2#32 := by decide

/-! The assembler (30_encoding R81). -/

theorem test_assemble_commit : assemble ['C', 'O', 'M', 'M', 'I', 'T', ' ', '0', 'x', 'A', '4', ',', ' ', '2'] =
    some (.commit 0xA4#8 0x02#8) := by decide
theorem test_assemble_refuses_wide_digit :
    assemble ['E', 'N', 'C', ' ', '1', '6', ',', '0'] = none := by decide

/-! One step of each command and internal step. -/

/-- A field of the next state. -/
def fieldOf {α : Type} (f : State → α) (r : Result) : Option α :=
  match r with
  | .next t => some (f t)
  | .fault _ => none
  | .refused _ => none

/-- Reset with a time. -/
def atTime (m : Fin 100) (c : Fin 60) : State := State.reset.withTime m c

/-- A state in which the multiplexer is busy. -/
def busyState : State := State.reset.withMuxPhase .load

/-- Reset under NEG_POLICY = FAULT. -/
def negFaultState : State := State.powerOn { defaultConfig with negPolicy := .fault }

/-- In the dwell of position 1 of RENDER 247, 1, 1 (95_test_vectors P2). -/
def dwellState : State :=
  { State.reset with
    muxPhase := .dwell, muxPos := 1#2, muxDig := #v[0, 2, 4, 7], muxUd := 1#1, muxDpi := 1#2,
    devSegOut := 0x24#8, devEnOut := 0x02#8, frames := [(0xC0#8, 0x01#8), (0x24#8, 0x02#8)] }

/-- At the end of the transfer of 0xA402 (95_test_vectors S-1, step 50 next). -/
def latchState : State :=
  { State.reset with
    srPhase := .latchHi, srFrame := 0xA402#16, srCnt := 16#5, devChain := 0xA402#16, devSegOut := 0xFF#8,
    devEnOut := 0x00#8, script := [.internal .srLatchHi] }

/-- ENC-2P. -/
theorem test_enc_with_point : fieldOf State.res (exec (.enc 1#1 2#4) State.reset) = some 0x0024#16 := by decide
/-- ENC-15. -/
theorem test_enc_digit_range :
    fieldOf State.fault (exec (.enc 1#1 15#4) State.reset) = some (some (.digitRange 15#4)) := by decide
/-- S-1: the frame a COMMIT loads. -/
theorem test_commit_frame : fieldOf State.srFrame (exec (.commit 0xA4#8 0x02#8) State.reset) = some 0xA402#16 := by
  decide
/-- S-5. -/
theorem test_commit_while_busy :
    fieldOf State.fault (exec (.commit 0xA4#8 0x02#8) busyState) = some (some (.busyOverlap 0x2000A402#32)) := by decide
/-- R-32767. -/
theorem test_render_digits :
    fieldOf State.muxDig (exec (.render 0#1 0#2 32767#16) State.reset) = some #v[2, 7, 6, 7] := by decide
/-- R-NEG1F. -/
theorem test_render_negative_faults :
    fieldOf State.fault (exec (.render 0#1 0#2 0xFFFF#16) negFaultState) = some (some (.negValue (-1))) := by decide
/-- T-PEND. -/
theorem test_period_pending : fieldOf State.tickPending (exec .period State.reset) = some true := by decide
/-- T-CLR-1. -/
theorem test_clear_time :
    fieldOf (fun t => (t.min, t.sec)) (exec .clear (atTime 42 17)) = some (0, 0) := by decide
/-- T-RD-3. -/
theorem test_readt_top : fieldOf State.res (exec .readt (atTime 99 59)) = some 0x633B#16 := by decide
/-- T-6. -/
theorem test_tick_wraps :
    (runInternal .tick ((atTime 99 59).withTickPending true)).map (fun t => (t.min, t.sec)) = some (0, 0) := by decide
/-- T-3. -/
theorem test_tick_carries :
    (runInternal .tick ((atTime 0 59).withTickPending true)).map (fun t => (t.min, t.sec)) = some (1, 0) := by decide
/-- R-247, position 1: the point of DPI. -/
theorem test_muxLoad_frame :
    (runInternal .muxLoad (dwellState.withMuxPhase .load)).map State.srFrame = some 0x2402#16 := by decide
/-- S-1, step 2: bit 15 goes out first. -/
theorem test_srData_first_bit :
    (runInternal .srData ((srStart 0xA4#8 0x02#8 State.reset).withSrPhase .data)).map State.data = some true := by decide
/-- S-1, step 50. -/
theorem test_srLatchHi_outputs :
    (runInternal .srLatchHi latchState).map (fun t => (t.devSegOut, t.devEnOut)) = some (0xA4#8, 0x02#8) := by decide
/-- The column "lit segments" of 10_state R31, digits 2, 4 and 7. -/
theorem test_lit_segments :
    litSegments defaultConfig (lut defaultConfig 2) = [.a, .b, .d, .e, .g] ∧
    litSegments defaultConfig (lut defaultConfig 4) = [.b, .c, .f, .g] ∧
    litSegments defaultConfig (lut defaultConfig 7) = [.a, .b, .c] := by decide

/-- Another assignment (a on bit 7, the point on bit 0) moves what one byte lights (10_state R32, D3). -/
theorem test_lit_segments_follow_assignment :
    litSegments { defaultConfig with segmentBits := #v[7, 1, 2, 3, 4, 5, 6], dpBit := 0 } 0x7E#8 = [.a, .dp] := by decide
/-- RST-2. -/
theorem test_read_after_reset :
    fieldOf State.fault (step (State.reset.withSchedule [.hostRead] 0)) = some (some .unwrittenRead) := by decide
/-- The first step after reset with a word placed (T-RD-4). -/
theorem test_placed_readt : fieldOf State.res (step (State.reset.withFetchWord 32 0x60000000)) = some 0x0000#16 := by
  decide
/-- The first step after reset with PERIOD placed (T-PEND). -/
theorem test_placed_period :
    fieldOf State.tickPending (step (State.reset.withFetchWord 32 0x40000000)) = some true := by decide

/-! Witnesses: each names the statement whose hypotheses it meets. -/

theorem witness_running_idle : Running State.reset ∧ busy State.reset = false ∧ State.reset.clk = false := by decide

theorem witness_DecodedWordIsEncoding :
    decode .command 0x1000001F#32 = .ok (.enc 1#1 15#4) ∧ decode .timer 0x40000000#32 = .ok .period := by decide

theorem witness_RowsMatchTheDecoder :
    decodeWord 0x3E0004D2#32 = .ok (.render 1#1 3#2 1234#16) ∧
    matchesRow 0x3E0004D2#32 (.render 0#1 0#2 0#16) = true ∧
    (1 ≤ (0x10000020#32 : Word).toNat / 2 ^ 28 ∧ (0x10000020#32 : Word).toNat / 2 ^ 28 ≤ 6 ∧
      ∀ i : Instr, matchesRow 0x10000020#32 i = false) ∧
    (1 ≤ (0x6FFFFFFF#32 : Word).toNat / 2 ^ 28 ∧ (0x6FFFFFFF#32 : Word).toNat / 2 ^ 28 ≤ 6 ∧
      ∀ i : Instr, matchesRow 0x6FFFFFFF#32 i = false) := by
  refine ⟨by decide, by decide, ⟨by decide, by decide, fun i => ?_⟩, ⟨by decide, by decide, fun i => ?_⟩⟩ <;>
    cases i <;> simp [matchesRow, opcodeRow]

theorem witness_AssemblerWords :
    (0 ≤ (15 : Int) ∧ (15 : Int) ≤ 15 ∧ 0 ≤ (1 : Int) ∧ (1 : Int) ≤ 1) ∧
    ¬ (0 ≤ (16 : Int) ∧ (16 : Int) ≤ 15 ∧ 0 ≤ (0 : Int) ∧ (0 : Int) ≤ 1) ∧
    (0 ≤ (255 : Int) ∧ (255 : Int) ≤ 255 ∧ 0 ≤ (0 : Int) ∧ (0 : Int) ≤ 255) ∧
    ¬ (0 ≤ (256 : Int) ∧ (256 : Int) ≤ 255 ∧ 0 ≤ (0 : Int) ∧ (0 : Int) ≤ 255) ∧
    (-32768 ≤ (-32768 : Int) ∧ (-32768 : Int) ≤ 32767 ∧ 0 ≤ (1 : Int) ∧ (1 : Int) ≤ 1 ∧ 0 ≤ (3 : Int) ∧ (3 : Int) ≤ 3) ∧
    ¬ (-32768 ≤ (32768 : Int) ∧ (32768 : Int) ≤ 32767 ∧ 0 ≤ (0 : Int) ∧ (0 : Int) ≤ 1 ∧ 0 ≤ (0 : Int) ∧ (0 : Int) ≤ 3) := by
  decide

theorem witness_SegEncodeClearsOnlyThePoint : 7 < 8 ∧ defaultConfig.dpBit.val = 7 := by decide

theorem witness_OverlayLightsThePoint :
    defaultConfig.wellFormed = true ∧ 6 < 8 ∧ 6 ≠ defaultConfig.dpBit.val := by decide

theorem witness_OverlayKeepsSegments :
    defaultConfig.wellFormed = true ∧ defaultConfig.segmentsDistinct = true := by decide

theorem witness_EncWritesPattern : (9#4).toNat < 10 ∧ busy State.reset = false := by decide

theorem witness_EncFaultsOnDigitRange : 10 ≤ (10#4).toNat ∧ busy State.reset = false := by decide

theorem witness_CommitStartsTransfer : busy State.reset = false := by decide

theorem witness_SerializerSteps : (State.reset.withSrCnt 15#5).srCnt.toNat < 16 := by decide

theorem witness_TransferAsAWhole :
    Running State.reset ∧ State.reset.clk = false ∧ 49 < 50 ∧ 15 < 16 ∧
      transferTurns[47]? = some (.internal .srClkHi) := by decide

theorem witness_InterleavedTransferLatchesFrame :
    Running State.reset ∧ State.reset.clk = false ∧
      Interleaves (periodAndTick ++ transferTurns ++ periodAndTick) transferTurns := by
  refine ⟨by decide, by decide, ?_⟩
  unfold Interleaves
  decide

theorem witness_OutputsChangeOnlyAtLatch :
    ∃ t, step latchState = .next t ∧ t.devSegOut ≠ latchState.devSegOut ∧ t.devEnOut ≠ latchState.devEnOut ∧
      t.frames ≠ latchState.frames := ⟨_, rfl, by decide, by decide, by decide⟩

theorem witness_LinesDrivenOnlyBySerializer :
    ∃ t, step latchState = .next t ∧ t.latch ≠ latchState.latch := ⟨_, rfl, by decide⟩

theorem witness_RenderLatchesDigits :
    busy State.reset = false ∧ 0 ≤ (0x7FFF#16).toInt ∧ (0x8000#16).toInt < 0 ∧
      State.reset.cfg.negPolicy = .clamp0 := by decide

theorem witness_RenderFaultsOnNegative :
    busy negFaultState = false ∧ (0xFFFF#16).toInt < 0 ∧ negFaultState.cfg.negPolicy = .fault := by decide

theorem witness_RenderShowsLowFourDigits : busy State.reset = false ∧ 0 ≤ (32767#16).toInt := by decide

theorem witness_RenderShowsFourFrames :
    Running State.reset ∧ busy State.reset = false ∧ State.reset.clk = false ∧ 0 ≤ (247#16).toInt ∧
      Interleaves (periodAndTick ++ renderTurns) renderTurns := by
  refine ⟨by decide, by decide, by decide, by decide, ?_⟩
  unfold Interleaves
  decide +kernel

theorem witness_RenderBusyUntilLastDwell :
    Running State.reset ∧ busy State.reset = false ∧ State.reset.clk = false ∧ 0 ≤ (0#16).toInt ∧ 212 ≤ 212 := by decide

theorem witness_DwellShowsOneDigit : Inv dwellState ∧ dwellState.cfg.wellFormed = true ∧ dwellState.muxPhase = .dwell := by
  refine ⟨⟨?_, ?_, ?_, ?_, ?_, ?_, ?_, ?_, ?_, ?_, ?_⟩, by decide, rfl⟩ <;>
    simp [dwellState, State.reset, State.powerOn, bitsSent, Nat.mod_one]
  decide

theorem witness_RenderArgumentsWrittenOnlyByRender :
    ∃ t, step (State.reset.withFetchWord 32 0x300000CD) = .next t ∧ t.muxDig ≠ State.reset.muxDig :=
  ⟨_, rfl, by decide⟩

theorem witness_ClearZeroesTime : busy (atTime 42 17) = false := by decide

theorem witness_ReadtTakesSnapshot : busy (atTime 99 59) = false := by decide

theorem witness_ReadtNeverTorn : busy (atTime 0 59) = false := by decide

theorem witness_ClockDisplayDigits :
    busy (State.reset.withRes 0x633B#16) = false ∧
      (State.reset.withRes 0x633B#16).res.toNat = 256 * (99 : Fin 100).val + (59 : Fin 60).val := by decide

theorem witness_TickAdvancesTime :
    Running ((atTime 99 59).withSchedule [.internal .tick] 0) ∧
      ((atTime 99 59).withSchedule [.internal .tick] 0).tickPending = false ∧
      ((atTime 99 59).withTickPending true).tickPending = true ∧ (atTime 99 59).sec.val = 59 ∧
      (atTime 99 58).sec.val ≠ 59 := by decide

theorem witness_TicksCountModulo6000 : Running (atTime 99 59) := by decide

theorem witness_PeriodsCoalesce : Running (atTime 99 59) := by decide

theorem witness_ClearAndTickInEitherOrder :
    Running ((atTime 42 17).withTickPending true) ∧ busy ((atTime 42 17).withTickPending true) = false ∧
      ((atTime 42 17).withTickPending true).tickPending = true := by decide

theorem witness_TimerStateWriters :
    (∃ t, step ((atTime 42 17).withFetchWord 32 0x50000000) = .next t ∧ t.sec ≠ (atTime 42 17).sec ∧
      t.min ≠ (atTime 42 17).min) ∧
    ∃ t, step (State.reset.withFetchWord 32 0x40000000) = .next t ∧ t.tickPending ≠ State.reset.tickPending :=
  ⟨⟨_, rfl, by decide, by decide⟩, ⟨_, rfl, by decide⟩⟩

theorem witness_WordWhileBusyFaults :
    Running busyState ∧ busy busyState = true ∧
      (busyState.withSchedule [.host 0x60000000#32] 0).script = [.host 0x60000000#32] ∧
      decode .command 0x60000000#32 = .ok .readt ∧
      (busyState.withSchedule [.timerPort 0x40000000#32] 0).script = [.timerPort 0x40000000#32] ∧
      decode .timer 0x40000000#32 = .ok .period := by decide

/-- DEC-1, DEC-3, DEC-9, DEC-12, ENC-BUSY, ENC-10 and R-NEG1F meet the clauses one by one. -/
theorem witness_ChecksInOrder :
    Running (State.reset.withSchedule [.host 0x00000000#32] 0) ∧
    (0x00000000#32 : Word).toNat / 2 ^ 28 = 0 ∧ 7 ≤ (0x7FFFFFFF#32 : Word).toNat / 2 ^ 28 ∧
    (0x40000000#32 : Word) = periodWord ∧
    decode .command 0x10000020#32 = .error (.reservedNonzero 0x10000020#32) ∧
    (decode .command 0x10000002#32 = .ok (.enc 0#1 2#4) ∧ busy busyState = true) ∧
    (decode .command 0x1000000A#32 = .ok (.enc 0#1 10#4) ∧ busy State.reset = false ∧ 10 ≤ (10#4).toNat) ∧
    (decode .command 0x3000FFFF#32 = .ok (.render 0#1 0#2 0xFFFF#16) ∧ busy negFaultState = false ∧
      (0xFFFF#16).toInt < 0 ∧ negFaultState.cfg.negPolicy = .fault ∧ Running negFaultState) := by decide

theorem witness_FaultsPreciseAndFinal :
    (∃ t, step (State.reset.withFetchWord 32 0x1000000A) = .next t ∧ t.fault ≠ none) ∧
      (State.reset.withFault .unwrittenRead).fault ≠ none := ⟨⟨_, rfl, by decide⟩, by decide⟩

theorem witness_InterruptLeavesForeground :
    Running ((busyState.withTickPending true).withSchedule [.internal .tick] 0) ∧
      ((busyState.withTickPending true).withSchedule [.internal .tick] 0).tickPending = true ∧
      Running (busyState.withSchedule [.timerPort periodWord] 0) ∧
      (atTime 2 5).sec = ((atTime 2 5).withMuxPhase .load).sec ∧
      (atTime 2 5).min = ((atTime 2 5).withMuxPhase .load).min ∧
      (atTime 2 5).tickPending = ((atTime 2 5).withMuxPhase .load).tickPending := by decide

theorem witness_ForegroundIgnoresClock :
    Running ((atTime 2 5).withSchedule [.host 0x50000000#32] 0) ∧
      foreground ((atTime 2 5).withSchedule [.host 0x50000000#32] 0) =
        foreground ((atTime 7 1).withSchedule [.host 0x50000000#32, .hostRead] 0) ∧
      (Turn.host 0x50000000#32).isClock = false ∧ Turn.host 0x50000000#32 ≠ .host (encode .readt) :=
  ⟨by decide, rfl, by decide, by decide⟩

theorem witness_ReadOfResChecksWritten :
    Running (State.reset.withSchedule [.hostRead] 0) ∧ State.reset.resWritten = false ∧
      Running ((State.reset.withRes 0x0205#16).withSchedule [.hostRead] 0) ∧
      (State.reset.withRes 0x0205#16).resWritten = true := by decide

theorem witness_ResWrittenOnlyByEncAndReadt :
    (∃ t, step (State.reset.withFetchWord 32 0x60000000) = .next t ∧ t.resWritten ≠ State.reset.resWritten) ∧
      ∃ t, step (State.reset.withFetchWord 32 0x10000002) = .next t ∧ t.res ≠ State.reset.res :=
  ⟨⟨_, rfl, by decide⟩, ⟨_, rfl, by decide⟩⟩

theorem witness_FrameOfEncAndReadt :
    (∃ t, exec .readt State.reset = .next t) ∧ (∃ t, exec (.enc 0#1 9#4) State.reset = .next t) ∧
      ∃ t, exec (.enc 0#1 10#4) State.reset = .next t := ⟨⟨_, rfl⟩, ⟨_, rfl⟩, ⟨_, rfl⟩⟩

theorem witness_FrameOfCommit :
    (∃ t, exec (.commit 0xA4#8 0x02#8) State.reset = .next t) ∧
      ∃ t, exec (.commit 0xA4#8 0x02#8) busyState = .next t := ⟨⟨_, rfl⟩, ⟨_, rfl⟩⟩

theorem witness_FrameOfRender :
    (∃ t, exec (.render 1#1 1#2 247#16) State.reset = .next t) ∧
      ∃ t, exec (.render 1#1 1#2 247#16) busyState = .next t := ⟨⟨_, rfl⟩, ⟨_, rfl⟩⟩

theorem witness_FrameOfPeriodAndClear :
    (∃ t, exec .period busyState = .next t) ∧ (∃ t, exec .clear State.reset = .next t) ∧
      ∃ t, exec .clear busyState = .next t := ⟨⟨_, rfl⟩, ⟨_, rfl⟩, ⟨_, rfl⟩⟩

theorem witness_StepRunsDecodedCommand :
    Running State.reset ∧ decode .command 0x50000000#32 = .ok .clear ∧ decode .timer 0x40000000#32 = .ok .period ∧
      (State.reset.withSchedule [.host 0x50000000#32] 0).script = [Turn.host 0x50000000#32] ∧
      (State.reset.withSchedule [.timerPort 0x40000000#32] 0).script = [Turn.timerPort 0x40000000#32] := by decide

theorem witness_StepRunsInternalStep :
    Running (dwellState.withSchedule [.internal .dwellDone] 0) ∧
      (∃ t, runInternal .dwellDone (dwellState.withSchedule [] 0) = some t) ∧
      runInternal .dwellDone (State.reset.withSchedule [] 0) = none := ⟨by decide, ⟨_, rfl⟩, rfl⟩

theorem witness_PlacedWordRunsNext :
    Running State.reset ∧ decodeTableWord 32 0x40000000 = some .period ∧
      decodeTableWord 32 0x3E0004D2 = some (.render 1#1 3#2 1234#16) := by decide

theorem witness_OneSequencerStepEnabled :
    Internal.srLatchHi.agent = .seq ∧ (runInternal .srLatchHi latchState).isSome = true := by decide

theorem witness_StepKeepsInvariant :
    Inv dwellState ∧ ∃ t, step (dwellState.withSchedule [.internal .dwellDone] 0) = .next t :=
  ⟨witness_DwellShowsOneDigit.1, _, rfl⟩

/-- In phase CLK_HI of a transfer's first bit (95_test_vectors S-1, step 3 next). -/
def clkHiState : State :=
  { State.reset with
    srPhase := .clkHi, srFrame := 0xA402#16, data := true, script := [.internal .srClkHi] }

theorem witness_ClockLineFollowsPhase :
    (clkHiState.clk = true ↔ clkHiState.srPhase = .clkLo) ∧
      (∃ t, step clkHiState = .next t ∧ t.clk ≠ clkHiState.clk) ∧
      ∃ t, runInternal .srClkHi clkHiState = some t :=
  ⟨by decide, ⟨_, rfl, by decide⟩, _, rfl⟩

theorem witness_TablesNeverChange : ∃ t, step latchState = .next t := ⟨_, rfl⟩

theorem witness_BadConfigurationRefused :
    State.reset.fault = none ∧
      step (State.powerOn { defaultConfig with enableMask := #v[0x01#8, 0x01#8, 0x04#8, 0x08#8] }) =
        .refused .configRejected := ⟨by decide, rfl⟩

/-- A schedule that takes the nine internal steps and PERIOD in turn. -/
def roundRobin (n : Nat) : Turn :=
  match n % 10 with
  | 0 => .internal .tick
  | 1 => .internal .muxLoad
  | 2 => .internal .muxSent
  | 3 => .internal .dwellDone
  | 4 => .internal .srLatchLo
  | 5 => .internal .srData
  | 6 => .internal .srClkHi
  | 7 => .internal .srClkLo
  | 8 => .internal .srLatchHi
  | _ => .timerPort periodWord

/-- Every turn of the round comes back. -/
theorem roundRobin_at (n r : Nat) (h : r < 10) : n ≤ 10 * n + r ∧ roundRobin (10 * n + r) = roundRobin r := by
  refine ⟨by omega, ?_⟩
  unfold roundRobin
  rw [Nat.mul_add_mod]

theorem witness_BusyEndsUnderWeakFairness :
    Running busyState ∧ WeaklyFair roundRobin busyState ∧
      ∀ n, (∃ k, roundRobin n = .internal k) ∨ roundRobin n = .timerPort periodWord := by
  refine ⟨by decide, ⟨fun k n _ => ?_, fun n => ⟨10 * n + 9, roundRobin_at n 9 (by decide)⟩⟩, fun n => ?_⟩
  · cases k
    · exact ⟨10 * n + 0, roundRobin_at n 0 (by decide)⟩
    · exact ⟨10 * n + 1, roundRobin_at n 1 (by decide)⟩
    · exact ⟨10 * n + 2, roundRobin_at n 2 (by decide)⟩
    · exact ⟨10 * n + 3, roundRobin_at n 3 (by decide)⟩
    · exact ⟨10 * n + 4, roundRobin_at n 4 (by decide)⟩
    · exact ⟨10 * n + 5, roundRobin_at n 5 (by decide)⟩
    · exact ⟨10 * n + 6, roundRobin_at n 6 (by decide)⟩
    · exact ⟨10 * n + 7, roundRobin_at n 7 (by decide)⟩
    · exact ⟨10 * n + 8, roundRobin_at n 8 (by decide)⟩
  · unfold roundRobin
    split <;> first | exact Or.inl ⟨_, rfl⟩ | exact Or.inr rfl

end Sys2Proof.Tests
end

section
/-! PROOFS. The scope's statements: one sequencer step at a time (00_scope R14, 60_exceptions R177), and the refusal of
a configuration that fails a check (00_scope R10). -/

namespace Sys2Proof.Proofs

open Sys2Proof Sys2Proof.Machine

/-- The SEQ step whose `await` holds in a state, if there is one: the serializer's own phase decides, and while the
serializer is idle the multiplexer's (41_shift_register_bus R112 to R116, 42_display_multiplexer R133, R134). -/
def enabledSeqStep (s : State) : Option Internal :=
  match s.srPhase with
  | .latchLo => some .srLatchLo
  | .data => some .srData
  | .clkHi => some .srClkHi
  | .clkLo => some .srClkLo
  | .latchHi => some .srLatchHi
  | .idle =>
    match s.muxPhase with
    | .load => some .muxLoad
    | .send => some .muxSent
    | .idle => none
    | .dwell => none

/-- A SEQ step that runs is the one the two phases select. -/
theorem enabledSeqStep_of_isSome {s : State} {k : Internal} (hk : k.agent = .seq)
    (h : (runInternal k s).isSome = true) : enabledSeqStep s = some k := by
  obtain ⟨t, ht⟩ := Option.isSome_iff_exists.mp h
  cases k with
  | tick => cases hk
  | dwellDone => cases hk
  | muxLoad =>
    obtain ⟨hm, hs, _⟩ := stepMuxLoad_some ht
    simp [enabledSeqStep, hm, hs]
  | muxSent =>
    obtain ⟨hm, hs, _⟩ := stepMuxSent_some ht
    simp [enabledSeqStep, hm, hs]
  | srLatchLo => simp [enabledSeqStep, (stepSrLatchLo_some ht).1]
  | srData => simp [enabledSeqStep, (stepSrData_some ht).1]
  | srClkHi => simp [enabledSeqStep, (stepSrClkHi_some ht).1]
  | srClkLo => simp [enabledSeqStep, (stepSrClkLo_some ht).1]
  | srLatchHi => simp [enabledSeqStep, (stepSrLatchHi_some ht).1]

/-- Settles O49: both steps are the one that the phases of the serializer and the multiplexer select. -/
theorem oneSequencerStepEnabled : Obligations.OneSequencerStepEnabled := by
  unfold Obligations.OneSequencerStepEnabled
  intro s j k hj hk hjs hks
  exact Option.some.inj <|
    (enabledSeqStep_of_isSome hj hjs).symm.trans (enabledSeqStep_of_isSome hk hks)

/-- `oneHot` counts the set bits; the statements name the one bit that is set (00_scope R10 (2)). -/
theorem oneHot_iff (b : Byte) :
    oneHot b = true ↔ ∃ k, k < 8 ∧ ∀ j, j < 8 → (b.getLsbD j = true ↔ j = k) := by
  rw [oneHot, beq_iff_eq]
  constructor
  · intro h
    rw [List.countP_eq_length_filter, List.length_eq_one_iff] at h
    obtain ⟨k, hk⟩ := h
    have hmem (j : Nat) : (j < 8 ∧ b.getLsbD j = true) ↔ j = k := by
      have := congrArg (j ∈ ·) hk
      simpa only [List.mem_filter, List.mem_range, List.mem_singleton, eq_iff_iff] using this
    exact ⟨k, ((hmem k).mpr rfl).1, fun j hj => by simpa [hj] using hmem j⟩
  · rintro ⟨k, hk, hbit⟩
    calc (List.range 8).countP (fun i => b.getLsbD i)
        = (List.range 8).count k :=
          List.countP_congr fun j hj => by rw [hbit j (List.mem_range.mp hj), beq_iff_eq]
      _ = 1 := List.count_eq_one_of_mem List.nodup_range (List.mem_range.mpr hk)

/-- A vector's list, read through the index function `get` that the statements use. -/
theorem vector_toList_eq_ofFn {α : Type} {n : Nat} (v : Vector α n) : v.toList = List.ofFn v.get :=
  (congrArg Vector.toList Vector.ofFn_getElem.symm).trans Vector.toList_ofFn

theorem dpDark_iff (c : Config) :
    c.dpDark = true ↔ ∀ d : Fin 10, (c.segTable.get d).getLsbD c.dpBit.val = true := by
  rw [Config.dpDark, List.all_eq_true, vector_toList_eq_ofFn, List.forall_mem_ofFn_iff]

theorem masksOneHot_iff (c : Config) :
    c.masksOneHot = true ↔
      ∀ p : Fin 4, ∃ k, k < 8 ∧ ∀ j, j < 8 → ((c.enableMask.get p).getLsbD j = true ↔ j = k) := by
  simp only [Config.masksOneHot, List.all_eq_true, vector_toList_eq_ofFn, List.forall_mem_ofFn_iff, oneHot_iff]

theorem masksDistinct_iff (c : Config) :
    c.masksDistinct = true ↔ ∀ p q : Fin 4, p ≠ q → c.enableMask.get p ≠ c.enableMask.get q := by
  rw [Config.masksDistinct, decide_eq_true_eq, vector_toList_eq_ofFn, List.nodup_ofFn]
  exact forall₂_congr fun p q => not_imp_not.symm

/-- The executable check of a configuration is the three checks of 00_scope R10. -/
theorem wellFormed_iff (c : Config) :
    c.wellFormed = true ↔
      (∀ d : Fin 10, (c.segTable.get d).getLsbD c.dpBit.val = true) ∧
      (∀ p : Fin 4, ∃ k, k < 8 ∧ ∀ j, j < 8 → ((c.enableMask.get p).getLsbD j = true ↔ j = k)) ∧
      ∀ p q : Fin 4, p ≠ q → c.enableMask.get p ≠ c.enableMask.get q := by
  rw [Config.wellFormed, Bool.and_eq_true, Bool.and_eq_true, dpDark_iff, masksOneHot_iff, masksDistinct_iff, and_assoc]

/-- Without a fault the step is refused exactly for a configuration that fails its check: a turn of a running machine
always answers a next state. -/
theorem step_refused_iff (s : State) (hf : s.fault = none) :
    step s = .refused .configRejected ↔ ¬ s.cfg.wellFormed = true := by
  constructor
  · intro h hc
    obtain ⟨t, ht⟩ := takeTurn_answers_next (nextTurn s) (afterTurn s)
    rw [step_of_running s hf hc, ht] at h
    cases h
  · intro hc
    simp [step, advance, hf, hc]

/-- Settles O55: the step refuses by the executable check, and that check is the three checks of 00_scope R10. -/
theorem badConfigurationRefused : Obligations.BadConfigurationRefused := by
  unfold Obligations.BadConfigurationRefused
  intro s hf
  rw [step_refused_iff s hf, wellFormed_iff]

end Sys2Proof.Proofs
end

section
/-! PROOFS. The word of a command that decodes: its fields cut it apart, and the encoder puts them together again
(30_encoding R71, R73 to R76, R78). -/

namespace Sys2Proof.Proofs

open Sys2Proof Sys2Proof.Machine

/-- The low `m + n` bits of a word are the `n` bits from `m` on, above its low `m` bits. -/
theorem setWidth_bitsAt_zero_add (w : Word) (m n : Nat) :
    (bitsAt w 0 (m + n)).setWidth 32 =
      (bitsAt w m n).setWidth 32 <<< m ||| (bitsAt w 0 m).setWidth 32 := by
  ext k hk
  rcases Nat.lt_or_ge k m with hkm | hmk
  · simp [bitsAt, hkm, hk, Nat.lt_add_right n hkm]
  · simp [bitsAt, hmk, hk, Nat.not_lt.mpr hmk, Nat.add_sub_cancel' hmk, Nat.sub_lt_iff_lt_add' hmk]

/-- A word is its OP field above its low 28 bits (30_encoding R71). -/
theorem op_or_low_eq {w : Word} {op : BitVec 4} (h : (opOf w).toNat = op.toNat) :
    op.setWidth 32 <<< 28 ||| (bitsAt w 0 28).setWidth 32 = w := by
  rw [← BitVec.eq_of_toNat_eq h, opOf, ← setWidth_bitsAt_zero_add w 28 4]
  simp [bitsAt]

/-- A word with nothing below its OP field. -/
theorem op_eq_of_low_eq_zero {w : Word} {op : BitVec 4} (h : (opOf w).toNat = op.toNat) (hz : bitsAt w 0 28 = 0) :
    op.setWidth 32 <<< 28 = w := by
  simpa [hz] using op_or_low_eq h

/-- A guarded case of the decoder accepts a word only with its reserved bits 0. -/
theorem of_ite_eq_ok {P : Prop} [Decidable P] {i j : Instr} {e : DecodeFault}
    (h : (if P then Except.ok i else .error e) = .ok j) : P ∧ i = j := by
  split at h
  · next hP => exact ⟨hP, Except.ok.inj h⟩
  · cases h

/-- A decoded command's word is its encoding: below OP, each case of R78 reads the fields of its format and asks for 0
in the rest. -/
theorem encode_of_decodeWord {w : Word} {i : Instr} (h : decodeWord w = .ok i) : encode i = w := by
  unfold decodeWord at h
  split at h
  next hop =>
    obtain ⟨hz, rfl⟩ := of_ite_eq_ok h
    simpa [encode, setWidth_bitsAt_zero_add w 5 23, setWidth_bitsAt_zero_add w 4 1, hz, BitVec.or_assoc]
      using op_or_low_eq (op := 1#4) hop
  next hop =>
    obtain ⟨hz, rfl⟩ := of_ite_eq_ok h
    simpa [encode, setWidth_bitsAt_zero_add w 16 12, setWidth_bitsAt_zero_add w 8 8, hz, BitVec.or_assoc]
      using op_or_low_eq (op := 2#4) hop
  next hop =>
    obtain ⟨hz, rfl⟩ := of_ite_eq_ok h
    simpa [encode, setWidth_bitsAt_zero_add w 27 1, setWidth_bitsAt_zero_add w 25 2, setWidth_bitsAt_zero_add w 16 9,
      hz, BitVec.or_assoc] using op_or_low_eq (op := 3#4) hop
  next hop =>
    obtain ⟨hz, rfl⟩ := of_ite_eq_ok h
    exact op_eq_of_low_eq_zero (op := 4#4) hop hz
  next hop =>
    obtain ⟨hz, rfl⟩ := of_ite_eq_ok h
    exact op_eq_of_low_eq_zero (op := 5#4) hop hz
  next hop =>
    obtain ⟨hz, rfl⟩ := of_ite_eq_ok h
    exact op_eq_of_low_eq_zero (op := 6#4) hop hz
  next => cases h

/-- A word that decodes on a port is the encoding of its command. -/
theorem encode_of_decode {p : Port} {w : Word} {i : Instr} (h : decode p w = .ok i) : encode i = w := by
  unfold decode at h
  split at h
  · cases h
  · next hw =>
    split at h
    · cases h
      exact encode_of_decodeWord hw
    · cases h

end Sys2Proof.Proofs
end

section
/-! PROOFS. The writers of the state's registers (10_state R21 to R30, R41), each read off the transitions of `Effect`,
and the HOST's read of RES (10_state R25). -/

namespace Sys2Proof.Proofs

open Sys2Proof Sys2Proof.Machine

/-- The writers of the lines (10_state R30). -/
theorem serializer_of_line_changed {turn : Turn} {s t : State} (h : Effect turn s t)
    (hne : t.latch ≠ s.latch ∨ t.clk ≠ s.clk ∨ t.data ≠ s.data) :
    ∃ k, k ∈ [Internal.srLatchLo, .srData, .srClkHi, .srClkLo, .srLatchHi] ∧ turn = .internal k := by
  cases h with
  | srLatchLo | srData | srClkHi | srClkLo | srLatchHi => exact ⟨_, by decide, rfl⟩
  | _ => simp at hne

/-- Settles O16: of the transitions only the serializer's touch a line, and `powerOn` sets the three to 0. -/
theorem linesDrivenOnlyBySerializer : Obligations.LinesDrivenOnlyBySerializer := by
  unfold Obligations.LinesDrivenOnlyBySerializer
  refine ⟨fun s t h hne => ?_, fun _ => ⟨rfl, rfl, rfl⟩⟩
  obtain ⟨_, l, n, he⟩ := step_effect h
  exact serializer_of_line_changed he hne

/-- The writer of the arguments (10_state R28): a RENDER refused while BUSY or for its value is a `faulted` transition. -/
theorem render_of_argument_changed {turn : Turn} {s t : State} (h : Effect turn s t)
    (hne : t.muxDig ≠ s.muxDig ∨ t.muxUd ≠ s.muxUd ∨ t.muxDpi ≠ s.muxDpi) :
    busy s = false ∧ ∃ ud dpi value, turn = .host (encode (.render ud dpi value)) := by
  cases h with
  | render w s ud dpi value u hw hb hu => exact ⟨hb, ud, dpi, value, by rw [encode_of_decode hw]⟩
  | _ => simp at hne

/-- Settles O24: of the transitions only an accepted RENDER writes the arguments. -/
theorem renderArgumentsWrittenOnlyByRender : Obligations.RenderArgumentsWrittenOnlyByRender := by
  unfold Obligations.RenderArgumentsWrittenOnlyByRender
  intro s t h hne
  obtain ⟨_, l, n, he⟩ := step_effect h
  exact (render_of_argument_changed he :) hne

/-- The writers of SEC and MIN (10_state R21, R22). -/
theorem tick_or_clear_of_time_changed {turn : Turn} {s t : State} (h : Effect turn s t)
    (hne : t.sec ≠ s.sec ∨ t.min ≠ s.min) : turn = .internal .tick ∨ turn = .host (encode .clear) := by
  cases h with
  | tick => exact .inl rfl
  | clear w s hw hb => exact .inr (by rw [encode_of_decode hw])
  | _ => simp at hne

/-- The writers of TICK_PENDING (10_state R24). -/
theorem tick_or_period_of_tickPending_changed {turn : Turn} {s t : State} (h : Effect turn s t)
    (hne : t.tickPending ≠ s.tickPending) : turn = .internal .tick ∨ turn = .timerPort (encode .period) := by
  cases h with
  | tick => exact .inl rfl
  | period w s hw => exact .inr (by rw [encode_of_decode hw])
  | _ => simp at hne

/-- Settles O34: of the transitions only TICK and CLEAR write the time, and only TICK and PERIOD the pending mark. -/
theorem timerStateWriters : Obligations.TimerStateWriters := by
  unfold Obligations.TimerStateWriters
  intro s t h
  obtain ⟨_, l, n, he⟩ := step_effect h
  exact ⟨(tick_or_clear_of_time_changed he :), (tick_or_period_of_tickPending_changed he :)⟩

/-- The writers of RES and its written mark (10_state R25). -/
theorem enc_or_readt_of_res_changed {turn : Turn} {s t : State} (h : Effect turn s t)
    (hne : t.res ≠ s.res ∨ t.resWritten ≠ s.resWritten) :
    t.resWritten = true ∧ (turn = .host (encode .readt) ∨ ∃ dp digit, turn = .host (encode (.enc dp digit))) := by
  cases h with
  | readt w s hw hb => exact ⟨rfl, .inl (by rw [encode_of_decode hw])⟩
  | enc w s dp digit d hw hb hd => exact ⟨rfl, .inr ⟨dp, digit, by rw [encode_of_decode hw]⟩⟩
  | _ => simp at hne

/-- Settles O41: of the transitions only ENC and READT write RES, and both mark it written. -/
theorem resWrittenOnlyByEncAndReadt : Obligations.ResWrittenOnlyByEncAndReadt := by
  unfold Obligations.ResWrittenOnlyByEncAndReadt
  intro s t h hne
  obtain ⟨_, l, n, he⟩ := step_effect h
  exact enc_or_readt_of_res_changed he hne

/-- Every transition is made of named updates, and each of them keeps the configuration (10_state R41). -/
theorem effect_cfg {turn : Turn} {s t : State} (h : Effect turn s t) : t.cfg = s.cfg := by
  cases h <;> simp

/-- Settles O54: a step is a transition on the state with its schedule advanced, and neither writes the
configuration. -/
theorem tablesNeverChange : Obligations.TablesNeverChange := by
  unfold Obligations.TablesNeverChange
  intro s t h
  obtain ⟨_, l, n, he⟩ := step_effect h
  exact (effect_cfg he :)

/-- The read before any write (10_state R25, 60_exceptions R191). -/
theorem hostRead_of_unwritten {s : State} (h : s.resWritten = false) :
    hostRead s = .next (s.withFault .unwrittenRead) := by
  simp [hostRead, readRes, h, raiseFault]

theorem readRes_of_written {s : State} (h : s.resWritten = true) : readRes s = .ok s.res := by
  simp [readRes, h]

/-- The read after a write (60_exceptions R190). -/
theorem hostRead_of_written {s : State} (h : s.resWritten = true) : hostRead s = .next s := by
  simp [hostRead, readRes_of_written h]

/-- Settles O40: the scripted turn is the read, whose outcome the written mark decides; `powerOn` clears the mark. -/
theorem readOfResChecksWritten : Obligations.ReadOfResChecksWritten := by
  unfold Obligations.ReadOfResChecksWritten
  refine ⟨fun s rest hr hs => ?_, fun _ => rfl⟩
  rw [step_scripted s .hostRead rest hr hs]
  exact ⟨fun h => hostRead_of_unwritten h, fun h => ⟨readRes_of_written h, hostRead_of_written h⟩⟩

end Sys2Proof.Proofs
end

section
/-! PROOFS. What the foreground takes from a turn (20_memory R61, R138): every turn but the clock's and READT runs on the
foreground's view alone; and the frame of ENC and READT, the writers of RES (20_memory R60). -/

namespace Sys2Proof.Proofs

open Sys2Proof Sys2Proof.Machine

/-- The view hides the schedule. -/
theorem foreground_withSchedule (s : State) (l : List Turn) (n : Nat) :
    foreground (s.withSchedule l n) = foreground s := rfl

theorem foreground_cfg (s : State) : (foreground s).cfg = s.cfg := rfl

theorem foreground_withSrPhase (s : State) (p : SrPhase) :
    foreground (s.withSrPhase p) = (foreground s).withSrPhase p := rfl

/-- The view keeps the lines and the device, so it sees the same edges. -/
theorem foreground_driveClk (s : State) (b : Bool) :
    foreground (driveClk b s) = driveClk b (foreground s) :=
  apply_ite foreground _ _ _

theorem foreground_driveLatch (s : State) (b : Bool) :
    foreground (driveLatch b s) = driveLatch b (foreground s) :=
  apply_ite foreground _ _ _

/-- The BUSY check reads nothing of the clock, so a guarded command runs on the view if its body does. -/
theorem whenIdle_foreground {i : Instr} {s t : State} {body viewBody : Result}
    (hbody : body = .next t → viewBody = .next (foreground t)) (h : whenIdle i s body = .next t) :
    whenIdle i (foreground s) viewBody = .next (foreground t) := by
  rcases whenIdle_next h with ⟨hb, rfl⟩ | ⟨hb, h⟩
  · exact whenIdle_of_busy i (foreground s) viewBody hb
  · rw [whenIdle_of_idle i (foreground s) viewBody hb]
    exact hbody h

/-- Every command but PERIOD and READT runs on the view. -/
theorem exec_foreground {i : Instr} {s t : State} (hp : i ≠ .period) (hr : i ≠ .readt) (h : exec i s = .next t) :
    exec i (foreground s) = .next (foreground t) := by
  cases i with
  | enc dp digit =>
    refine whenIdle_foreground (fun h => ?_) h
    cases hd : digitOperand digit with
    | none => rw [hd] at h; cases h; rfl
    | some d => rw [hd] at h; cases h; rfl
  | commit seg en => exact whenIdle_foreground (fun h => by cases h; rfl) h
  | render ud dpi value =>
    refine whenIdle_foreground (fun h => ?_) h
    rw [foreground_cfg]
    cases hu : renderOperand s.cfg.negPolicy (renderValue value) with
    | none => rw [hu] at h; cases h; rfl
    | some u => rw [hu] at h; cases h; rfl
  | period => exact absurd rfl hp
  | clear => exact whenIdle_foreground (fun h => by cases h; rfl) h
  | readt => exact absurd rfl hr

/-- Every internal step but TICK is enabled by the view and runs on it. -/
theorem runInternal_foreground {k : Internal} (hk : k ≠ .tick) (s : State) :
    runInternal k (foreground s) = (runInternal k s).map foreground := by
  cases k with
  | tick => exact absurd rfl hk
  | muxLoad => simp only [runInternal, stepMuxLoad, Option.map_if]; rfl
  | muxSent => simp only [runInternal, stepMuxSent, Option.map_if]; rfl
  | dwellDone => simp only [runInternal, stepDwellDone, Option.map_if, apply_ite foreground]; rfl
  | srLatchLo => simp only [runInternal, stepSrLatchLo, Option.map_if]; rfl
  | srData => simp only [runInternal, stepSrData, Option.map_if]; rfl
  | srClkHi => simp only [runInternal, stepSrClkHi, Option.map_if, foreground_withSrPhase, foreground_driveClk]; rfl
  | srClkLo => simp only [runInternal, stepSrClkLo, Option.map_if]; rfl
  | srLatchHi =>
    simp only [runInternal, stepSrLatchHi, Option.map_if, foreground_withSrPhase, foreground_driveLatch]; rfl

/-- A word runs on the view unless it is PERIOD's or READT's. -/
theorem presentWord_foreground {p : Port} {w : Word} {s t : State} (hp : decode p w ≠ .ok .period)
    (hr : decode p w ≠ .ok .readt) (h : presentWord p w s = .next t) :
    presentWord p w (foreground s) = .next (foreground t) := by
  unfold presentWord at h ⊢
  cases hd : decode p w with
  | error e =>
    rw [hd] at h
    cases h
    rfl
  | ok i =>
    rw [hd] at h
    exact exec_foreground (fun hi => hp (hi ▸ hd)) (fun hi => hr (hi ▸ hd)) h

/-- Every turn but the clock's and READT runs on the view. -/
theorem takeTurn_foreground {turn : Turn} {s t : State} (hc : turn.isClock = false)
    (hr : turn ≠ .host (encode .readt)) (h : takeTurn turn s = .next t) :
    takeTurn turn (foreground s) = .next (foreground t) := by
  cases turn with
  | host w =>
    refine presentWord_foreground (fun hd => ?_) (fun hd => hr ?_) h
    · cases decode_ok_port hd
    · rw [encode_of_decode hd]
  | hostRead =>
    cases hw : s.resWritten with
    | false =>
      cases (hostRead_of_unwritten hw).symm.trans h
      exact hostRead_of_unwritten (s := foreground s) hw
    | true =>
      cases (hostRead_of_written hw).symm.trans h
      exact hostRead_of_written (s := foreground s) hw
  | timerPort w =>
    refine presentWord_foreground (fun hd => ?_) (fun hd => ?_) h
    · cases encode_of_decode hd
      cases hc
    · cases decode_ok_port hd
  | internal k =>
    have hk : k ≠ .tick := by
      rintro rfl
      cases hc
    cases h
    rw [takeTurn, runInternal_foreground hk, Option.getD_map]

/-- A scripted step but the clock's and READT's answers a next state, whose view the turn makes of the view alone. -/
theorem step_foreground {s : State} {turn : Turn} {l : List Turn} (hrun : Running s) (hs : s.script = turn :: l)
    (hc : turn.isClock = false) (hr : turn ≠ .host (encode .readt)) :
    ∃ t, step s = .next t ∧ takeTurn turn (foreground s) = .next (foreground t) := by
  obtain ⟨t, ht⟩ := takeTurn_answers_next turn (s.withSchedule l s.draws)
  have hview := takeTurn_foreground hc hr ht
  rw [foreground_withSchedule] at hview
  exact ⟨t, (step_scripted s turn l hrun hs).trans ht, hview⟩

/-- Whether the machine runs is seen in the view. -/
theorem running_of_foreground_eq {s u : State} (h : foreground s = foreground u) (hs : Running s) : Running u :=
  (h ▸ hs : Running (foreground u))

/-- Settles O39: both steps make their next view of the one view the two states share. -/
theorem foregroundIgnoresClock : Obligations.ForegroundIgnoresClock := by
  unfold Obligations.ForegroundIgnoresClock
  intro s u turn l m hs hview hsl hum hc hr
  obtain ⟨s', hs', hsview⟩ := step_foreground hs hsl hc hr
  obtain ⟨u', hu', huview⟩ := step_foreground (running_of_foreground_eq hview hs) hum hc hr
  rw [hview, huview] at hsview
  exact ⟨s', u', hs', hu', (Host.Outcome.next.inj hsview).symm⟩

/-- ENC and READT either fault or write RES (40_segment_encoder R100, 43_clock_timer R156). -/
theorem withFault_or_withRes_of_enc_or_readt {i : Instr} {s t : State} (hi : i = .readt ∨ ∃ dp digit, i = .enc dp digit)
    (h : exec i s = .next t) : (∃ r, t = s.withFault r) ∨ ∃ v, t = s.withRes v := by
  rcases hi with rfl | ⟨dp, digit, rfl⟩
  · rcases execReadt_next h with ⟨_, ht⟩ | ⟨_, ht⟩
    · exact .inl ⟨_, ht⟩
    · exact .inr ⟨_, ht⟩
  · rcases execEnc_next h with ⟨_, ht⟩ | ⟨_, _, ht⟩ | ⟨_, d, _, ht⟩
    · exact .inl ⟨_, ht⟩
    · exact .inl ⟨_, ht⟩
    · exact .inr ⟨_, ht⟩

/-- Settles O42: each of the two updates leaves the fields it does not name. -/
theorem frameOfEncAndReadt : Obligations.FrameOfEncAndReadt := by
  unfold Obligations.FrameOfEncAndReadt
  intro i s t hi h
  rcases withFault_or_withRes_of_enc_or_readt hi h with ⟨r, rfl⟩ | ⟨v, rfl⟩ <;> simp

end Sys2Proof.Proofs
end

section
/-! PROOFS. The command words as numbers (30_encoding R71, R73 to R78, R81): the fields of a word are quotients and
remainders, the decoder is an equation per OP, the encoder a sum of fields, and the assembler meets R81's formulas. -/

namespace Sys2Proof.Proofs

open Sys2Proof Sys2Proof.Machine

/-- A field is the word's quotient, cut to the field's width (00_scope R11). -/
theorem bitsAt_eq_ofNat (w : Word) (lo n : Nat) : bitsAt w lo n = BitVec.ofNat n (w.toNat / 2 ^ lo) :=
  BitVec.eq_of_toNat_eq (by simp [bitsAt, Nat.shiftRight_eq_div_pow])

theorem bitsAt_eq_zero_iff (w : Word) (lo n : Nat) : bitsAt w lo n = 0 ↔ w.toNat / 2 ^ lo % 2 ^ n = 0 := by
  rw [bitsAt_eq_ofNat, ← BitVec.toNat_inj, BitVec.toNat_ofNat, BitVec.ofNat_eq_ofNat, BitVec.toNat_ofNat, Nat.zero_mod]

/-- OP is the word's first hexadecimal digit (30_encoding R71). -/
theorem opOf_toNat (w : Word) : (opOf w).toNat = w.toNat / 2 ^ 28 := by
  rw [opOf, bitsAt_eq_ofNat, BitVec.toNat_ofNat]
  omega

/-! The case table of 30_encoding R78, an equation per OP. -/

theorem decodeWord_of_op_one {w : Word} (h : w.toNat / 2 ^ 28 = 1) :
    decodeWord w = if w.toNat % 2 ^ 28 < 32 then
        .ok (.enc (BitVec.ofNat 1 (w.toNat / 16)) (BitVec.ofNat 4 w.toNat))
      else .error (.reservedNonzero w) := by
  have hres : w.toNat / 2 ^ 5 % 2 ^ 23 = 0 ↔ w.toNat % 2 ^ 28 < 32 := by omega
  simp only [decodeWord, opOf_toNat, h, ↓bitsAt_eq_zero_iff, hres, bitsAt_eq_ofNat, pow_zero, Nat.div_one]
  rfl

theorem decodeWord_of_op_two {w : Word} (h : w.toNat / 2 ^ 28 = 2) :
    decodeWord w = if w.toNat / 2 ^ 16 % 2 ^ 12 = 0 then
        .ok (.commit (BitVec.ofNat 8 (w.toNat / 256)) (BitVec.ofNat 8 w.toNat))
      else .error (.reservedNonzero w) := by
  simp only [decodeWord, opOf_toNat, h, ↓bitsAt_eq_zero_iff, bitsAt_eq_ofNat, pow_zero, Nat.div_one]
  rfl

theorem decodeWord_of_op_three {w : Word} (h : w.toNat / 2 ^ 28 = 3) :
    decodeWord w = if w.toNat / 2 ^ 16 % 2 ^ 9 = 0 then
        .ok (.render (BitVec.ofNat 1 (w.toNat / 2 ^ 27)) (BitVec.ofNat 2 (w.toNat / 2 ^ 25)) (BitVec.ofNat 16 w.toNat))
      else .error (.reservedNonzero w) := by
  simp only [decodeWord, opOf_toNat, h, ↓bitsAt_eq_zero_iff, bitsAt_eq_ofNat, pow_zero, Nat.div_one]

theorem decodeWord_of_op_four {w : Word} (h : w.toNat / 2 ^ 28 = 4) :
    decodeWord w = if w.toNat % 2 ^ 28 = 0 then .ok .period else .error (.reservedNonzero w) := by
  simp only [decodeWord, opOf_toNat, h, ↓bitsAt_eq_zero_iff, pow_zero, Nat.div_one]

theorem decodeWord_of_op_five {w : Word} (h : w.toNat / 2 ^ 28 = 5) :
    decodeWord w = if w.toNat % 2 ^ 28 = 0 then .ok .clear else .error (.reservedNonzero w) := by
  simp only [decodeWord, opOf_toNat, h, ↓bitsAt_eq_zero_iff, pow_zero, Nat.div_one]

theorem decodeWord_of_op_six {w : Word} (h : w.toNat / 2 ^ 28 = 6) :
    decodeWord w = if w.toNat % 2 ^ 28 = 0 then .ok .readt else .error (.reservedNonzero w) := by
  simp only [decodeWord, opOf_toNat, h, ↓bitsAt_eq_zero_iff, pow_zero, Nat.div_one]

theorem decodeWord_of_op_undefined {w : Word} (h : w.toNat / 2 ^ 28 < 1 ∨ 6 < w.toNat / 2 ^ 28) :
    decodeWord w = .error (.illegalCmd w) := by
  unfold decodeWord
  rw [opOf_toNat]
  split
  case h_7 => rfl
  all_goals omega

/-- The port is checked on the word that decodes (30_encoding R78). -/
theorem decode_of_decodeWord_ite {w : Word} {i : Instr} {R : Prop} [Decidable R] {e : DecodeFault}
    (h : decodeWord w = if R then .ok i else .error e) (p : Port) :
    decode p w = if R then if p = i.port then .ok i else .error (.illegalCmd w) else .error e := by
  by_cases hR : R
  · rw [if_pos hR] at h ⊢
    simp only [decode, h, eq_comm]
  · rw [if_neg hR] at h ⊢
    simp only [decode, h]

/-- Settles O4: the statement's chain of cases is the list of the decoder's equations, each with the port check. -/
theorem decodeFollowsCaseTable : Obligations.DecodeFollowsCaseTable := by
  unfold Obligations.DecodeFollowsCaseTable
  intro p w
  split
  next h => exact decode_of_decodeWord_ite (decodeWord_of_op_one h) p
  split
  next h => exact decode_of_decodeWord_ite (decodeWord_of_op_two h) p
  split
  next h => exact decode_of_decodeWord_ite (decodeWord_of_op_three h) p
  split
  next h => exact decode_of_decodeWord_ite (decodeWord_of_op_four h) p
  split
  next h => exact decode_of_decodeWord_ite (decodeWord_of_op_five h) p
  split
  next h => exact decode_of_decodeWord_ite (decodeWord_of_op_six h) p
  simp only [decode, decodeWord_of_op_undefined (w := w) (by omega)]

/-! The encoder in arithmetic: the fields of a word do not overlap. -/

/-- A field of `n` bits or-ed in at bit `k`, below a word with nothing under bit `n + k`, is added. -/
theorem toNat_or_field {n : Nat} (a : Word) (x : BitVec n) (k : Nat) (hk : n + k ≤ 32) (ha : 2 ^ (n + k) ∣ a.toNat) :
    (a ||| x.setWidth 32 <<< k).toNat = a.toNat + x.toNat * 2 ^ k := by
  have hx : x.toNat * 2 ^ k < 2 ^ (n + k) := by
    rw [Nat.pow_add]
    exact Nat.mul_lt_mul_of_pos_right x.isLt (Nat.two_pow_pos k)
  have hfield : (x.setWidth 32 <<< k).toNat = x.toNat * 2 ^ k := by
    rw [BitVec.toNat_shiftLeft, BitVec.toNat_setWidth_of_le (by omega), Nat.shiftLeft_eq,
      Nat.mod_eq_of_lt (hx.trans_le (Nat.pow_le_pow_right (by decide) hk))]
  obtain ⟨q, hq⟩ := ha
  rw [BitVec.toNat_or, hfield, hq, Nat.two_pow_add_eq_or_of_lt hx]

/-- The lowest field of a word. -/
theorem toNat_or_low_field {n : Nat} (a : Word) (x : BitVec n) (hn : n ≤ 32) (ha : 2 ^ n ∣ a.toNat) :
    (a ||| x.setWidth 32).toNat = a.toNat + x.toNat := by
  simpa using toNat_or_field a x 0 hn ha

theorem encode_enc_toNat (dp : BitVec 1) (digit : BitVec 4) :
    (encode (.enc dp digit)).toNat = 0x10000000 + dp.toNat * 2 ^ 4 + digit.toNat := by
  have hdp : _ = 0x10000000 + _ := toNat_or_field 0x10000000#32 dp 4 (by decide) (by decide)
  rw [encode, toNat_or_low_field _ _ (by decide) (by omega), hdp]

theorem encode_commit_toNat (seg en : Byte) :
    (encode (.commit seg en)).toNat = 0x20000000 + seg.toNat * 2 ^ 8 + en.toNat := by
  have hseg : _ = 0x20000000 + _ := toNat_or_field 0x20000000#32 seg 8 (by decide) (by decide)
  rw [encode, toNat_or_low_field _ _ (by decide) (by omega), hseg]

theorem encode_render_toNat (ud : BitVec 1) (dpi : BitVec 2) (value : Half) :
    (encode (.render ud dpi value)).toNat =
      0x30000000 + ud.toNat * 2 ^ 27 + dpi.toNat * 2 ^ 25 + value.toNat := by
  have hud : _ = 0x30000000 + _ := toNat_or_field 0x30000000#32 ud 27 (by decide) (by decide)
  have hdpi := toNat_or_field (0x30000000#32 ||| ud.setWidth 32 <<< 27) dpi 25 (by decide) (by omega)
  rw [encode, toNat_or_low_field _ _ (by decide) (by omega), hdpi, hud]

/-! The round trip. -/

/-- The decoder reads back every command, since no field of the encoder's sum overlaps another. -/
theorem decodeWord_encode (i : Instr) : decodeWord (encode i) = .ok i := by
  cases i with
  | enc dp digit =>
    have hw := encode_enc_toNat dp digit
    have hdp : BitVec.ofNat 1 ((encode (.enc dp digit)).toNat / 16) = dp := by bv_omega
    have hdigit : BitVec.ofNat 4 (encode (.enc dp digit)).toNat = digit := by bv_omega
    rw [decodeWord_of_op_one (by omega), if_pos (by omega), hdp, hdigit]
  | commit seg en =>
    have hw := encode_commit_toNat seg en
    have hseg : BitVec.ofNat 8 ((encode (.commit seg en)).toNat / 256) = seg := by bv_omega
    have hen : BitVec.ofNat 8 (encode (.commit seg en)).toNat = en := by bv_omega
    rw [decodeWord_of_op_two (by omega), if_pos (by omega), hseg, hen]
  | render ud dpi value =>
    have hw := encode_render_toNat ud dpi value
    have hud : BitVec.ofNat 1 ((encode (.render ud dpi value)).toNat / 2 ^ 27) = ud := by bv_omega
    have hdpi : BitVec.ofNat 2 ((encode (.render ud dpi value)).toNat / 2 ^ 25) = dpi := by bv_omega
    have hvalue : BitVec.ofNat 16 (encode (.render ud dpi value)).toNat = value := by bv_omega
    rw [decodeWord_of_op_three (by omega), if_pos (by omega), hud, hdpi, hvalue]
  | period => rfl
  | clear => rfl
  | readt => rfl

/-- A word that the case table reads decodes on the port of its command (30_encoding R72, R78). -/
theorem decode_of_decodeWord {w : Word} {i : Instr} (h : decodeWord w = .ok i) : decode i.port w = .ok i := by
  simp [decode, h]

/-- Settles O1: the case table reads the command back, and the port is the command's. -/
theorem decodeOfEncode : Obligations.DecodeOfEncode := by
  unfold Obligations.DecodeOfEncode
  exact fun i => decode_of_decodeWord (decodeWord_encode i)

/-- Settles O2: the decoder keeps every bit of the word, and its port check compares the port with the command's. -/
theorem decodedWordIsEncoding : Obligations.DecodedWordIsEncoding := by
  unfold Obligations.DecodedWordIsEncoding
  exact fun p w i h => ⟨encode_of_decode h, decode_ok_port h⟩

/-! The match-and-mask rows of 30_encoding R83. -/

/-- The encoded word of every command matches its own row. -/
theorem matchesRow_encode (i : Instr) : matchesRow (encode i) i = true := by
  rw [matchesRow, beq_iff_eq]
  cases i with
  | enc dp digit => exact Laws.OpcodeRow.enc dp digit
  | commit seg en => exact Laws.OpcodeRow.commit seg en
  | render ud dpi value => exact Laws.OpcodeRow.render ud dpi value
  | period => exact Laws.OpcodeRow.period
  | clear => exact Laws.OpcodeRow.clear
  | readt => exact Laws.OpcodeRow.readt

theorem matchesRow_of_decodeWord {w : Word} {i : Instr} (h : decodeWord w = .ok i) : matchesRow w i = true :=
  encode_of_decodeWord h ▸ matchesRow_encode i

/-- Where the mask of a row is all ones, a word of the row has the bits of the match. -/
theorem bitsAt_of_masked {w mask value : Word} (h : w &&& mask = value) (lo n : Nat)
    (hmask : bitsAt mask lo n = BitVec.allOnes n) : bitsAt w lo n = bitsAt value lo n := calc
  bitsAt w lo n = bitsAt w lo n &&& bitsAt mask lo n := by rw [hmask, BitVec.and_allOnes]
  _ = bitsAt (w &&& mask) lo n := BitVec.extractLsb'_and.symm
  _ = bitsAt value lo n := by rw [h]

/-- A word that matches a row decodes to a command of that row: the row's mask covers OP and the reserved bits, and for
the commands without operands the whole word. -/
theorem exists_decodeWord_of_matchesRow {w : Word} {i : Instr} (h : matchesRow w i = true) :
    ∃ j, decodeWord w = .ok j ∧ opcodeRow j = opcodeRow i := by
  rw [matchesRow, beq_iff_eq] at h
  cases i with
  | enc dp digit =>
    have hrow : w &&& 0xFFFFFFE0#32 = 0x10000000#32 := h
    have hop : opOf w = 1#4 := bitsAt_of_masked hrow 28 4 (by decide)
    have hres : bitsAt w 5 23 = 0 := bitsAt_of_masked hrow 5 23 (by decide)
    exact ⟨.enc (bitsAt w 4 1) (bitsAt w 0 4), by simp [decodeWord, hop, hres], rfl⟩
  | commit seg en =>
    have hrow : w &&& 0xFFFF0000#32 = 0x20000000#32 := h
    have hop : opOf w = 2#4 := bitsAt_of_masked hrow 28 4 (by decide)
    have hres : bitsAt w 16 12 = 0 := bitsAt_of_masked hrow 16 12 (by decide)
    exact ⟨.commit (bitsAt w 8 8) (bitsAt w 0 8), by simp [decodeWord, hop, hres], rfl⟩
  | render ud dpi value =>
    have hrow : w &&& 0xF1FF0000#32 = 0x30000000#32 := h
    have hop : opOf w = 3#4 := bitsAt_of_masked hrow 28 4 (by decide)
    have hres : bitsAt w 16 9 = 0 := bitsAt_of_masked hrow 16 9 (by decide)
    exact ⟨.render (bitsAt w 27 1) (bitsAt w 25 2) (bitsAt w 0 16), by simp [decodeWord, hop, hres], rfl⟩
  | period =>
    obtain rfl : w = encode .period := BitVec.and_allOnes.symm.trans h
    exact ⟨.period, decodeWord_encode .period, rfl⟩
  | clear =>
    obtain rfl : w = encode .clear := BitVec.and_allOnes.symm.trans h
    exact ⟨.clear, decodeWord_encode .clear, rfl⟩
  | readt =>
    obtain rfl : w = encode .readt := BitVec.and_allOnes.symm.trans h
    exact ⟨.readt, decodeWord_encode .readt, rfl⟩

/-- The decoder is single-valued, so all rows that a word matches are the row of its one command. -/
theorem opcodeRow_eq_of_matchesRow {w : Word} {i j : Instr} (hi : matchesRow w i = true) (hj : matchesRow w j = true) :
    opcodeRow i = opcodeRow j := by
  obtain ⟨a, ha, hai⟩ := exists_decodeWord_of_matchesRow hi
  obtain ⟨b, hb, hbj⟩ := exists_decodeWord_of_matchesRow hj
  cases ha.symm.trans hb
  exact hai.symm.trans hbj

/-- A case of the table whose command is not read asks for a reserved bit. -/
theorem eq_error_of_ite {w : Word} {i : Instr} {R : Prop} [Decidable R] {e : DecodeFault}
    (h : decodeWord w = if R then .ok i else .error e) (hno : ∀ j, decodeWord w ≠ .ok j) : decodeWord w = .error e := by
  by_cases hR : R
  · exact absurd (h.trans (if_pos hR)) (hno i)
  · exact h.trans (if_neg hR)

/-- A word with a defined OP decodes or has a reserved bit set. -/
theorem decodeWord_of_op_defined {w : Word} (hlo : 1 ≤ w.toNat / 2 ^ 28) (hhi : w.toNat / 2 ^ 28 ≤ 6)
    (hno : ∀ j, decodeWord w ≠ .ok j) : decodeWord w = .error (.reservedNonzero w) := by
  obtain h | h | h | h | h | h : w.toNat / 2 ^ 28 = 1 ∨ w.toNat / 2 ^ 28 = 2 ∨ w.toNat / 2 ^ 28 = 3 ∨
      w.toNat / 2 ^ 28 = 4 ∨ w.toNat / 2 ^ 28 = 5 ∨ w.toNat / 2 ^ 28 = 6 := by omega
  · exact eq_error_of_ite (decodeWord_of_op_one h) hno
  · exact eq_error_of_ite (decodeWord_of_op_two h) hno
  · exact eq_error_of_ite (decodeWord_of_op_three h) hno
  · exact eq_error_of_ite (decodeWord_of_op_four h) hno
  · exact eq_error_of_ite (decodeWord_of_op_five h) hno
  · exact eq_error_of_ite (decodeWord_of_op_six h) hno

/-- Settles O3: a decoded word is its command's encoding, which matches the row; the row's mask fixes what the decoder
asks for; and a word that matches no row does not decode. -/
theorem rowsMatchTheDecoder : Obligations.RowsMatchTheDecoder := by
  unfold Obligations.RowsMatchTheDecoder
  refine ⟨fun _ _ => matchesRow_of_decodeWord, fun _ _ => exists_decodeWord_of_matchesRow,
    fun _ _ _ => opcodeRow_eq_of_matchesRow, fun w hlo hhi hno => decodeWord_of_op_defined hlo hhi fun j hj => ?_⟩
  exact absurd (matchesRow_of_decodeWord hj) (by simp [hno])

/-! The assembler (30_encoding R81). -/

theorem encode_asmEnc {d p : Int} (h : 0 ≤ d ∧ d ≤ 15 ∧ 0 ≤ p ∧ p ≤ 1) :
    ∃ i, asmEnc d p = some i ∧ ((encode i).toNat : Int) = 0x10000000 + p * 16 + d := by
  refine ⟨_, if_pos h, ?_⟩
  rw [encode_enc_toNat, BitVec.toNat_ofInt, BitVec.toNat_ofInt]
  omega

theorem encode_asmCommit {x e : Int} (h : 0 ≤ x ∧ x ≤ 255 ∧ 0 ≤ e ∧ e ≤ 255) :
    ∃ i, asmCommit x e = some i ∧ ((encode i).toNat : Int) = 0x20000000 + x * 256 + e := by
  refine ⟨_, if_pos h, ?_⟩
  rw [encode_commit_toNat, BitVec.toNat_ofInt, BitVec.toNat_ofInt]
  omega

theorem encode_asmRender {v u i : Int}
    (h : -32768 ≤ v ∧ v ≤ 32767 ∧ 0 ≤ u ∧ u ≤ 1 ∧ 0 ≤ i ∧ i ≤ 3) :
    ∃ j, asmRender v u i = some j ∧
      ((encode j).toNat : Int) = 0x30000000 + u * 2 ^ 27 + i * 2 ^ 25 + v % 65536 := by
  refine ⟨_, if_pos h, ?_⟩
  rw [encode_render_toNat, BitVec.toNat_ofInt, BitVec.toNat_ofInt, BitVec.toNat_ofInt]
  omega

/-- Settles O6: the assembler's range check is the statement's, and an accepted command encodes to the sum of its
fields. -/
theorem assemblerWords : Obligations.AssemblerWords := by
  unfold Obligations.AssemblerWords
  exact ⟨fun _ _ => ⟨encode_asmEnc, fun h => if_neg h⟩, fun _ _ => ⟨encode_asmCommit, fun h => if_neg h⟩,
    fun _ _ _ => ⟨encode_asmRender, fun h => if_neg h⟩⟩

end Sys2Proof.Proofs
end

section
/-! PROOFS. The turn at the head of the schedule is what a step runs (30_encoding R70, R80, 00_scope R12, R13): a word
its command, an internal step its meaning, and a placed word the command it decodes to. -/

namespace Sys2Proof.Proofs

open Sys2Proof Sys2Proof.Machine

theorem presentWord_of_decode {p : Port} {w : Word} {i : Instr} (h : decode p w = .ok i) (s : State) :
    presentWord p w s = exec i s := by
  simp only [presentWord, h]

/-- Settles O46: the scripted turn presents the word on its port, where it decodes to the command. -/
theorem stepRunsDecodedCommand : Obligations.StepRunsDecodedCommand := by
  unfold Obligations.StepRunsDecodedCommand
  intro s p w i rest hr hw hs
  rw [step_scripted s _ rest hr hs]
  cases p with
  | command => exact presentWord_of_decode hw _
  | timer => exact presentWord_of_decode hw _

/-- Settles O47: the scripted turn is the internal step, and a step that is not enabled leaves the state. -/
theorem stepRunsInternalStep : Obligations.StepRunsInternalStep := by
  unfold Obligations.StepRunsInternalStep
  intro s k rest hr hs
  have hstep : step s = .next ((runInternal k { s with script := rest }).getD { s with script := rest }) :=
    step_scripted s (.internal k) rest hr hs
  exact ⟨fun t h => by rw [hstep, h, Option.getD_some], fun h => by rw [hstep, h, Option.getD_none]⟩

/-- The turn made for a word presents it on the port of its command (log entry 4). -/
theorem takeTurn_turnOfWord {w : Word} {i : Instr} (h : decodeWord w = .ok i) (s : State) :
    takeTurn (turnOfWord w) s = presentWord i.port w s := by
  cases i <;> simp only [turnOfWord, h] <;> rfl

/-- The table decoder reads only a value of its width, and by the case table (30_encoding R78). -/
theorem decodeWord_of_decodeTableWord {nbits w : Nat} {i : Instr} (h : decodeTableWord nbits w = some i) :
    w < 2 ^ nbits ∧ decodeWord (BitVec.ofNat 32 w) = .ok i := by
  unfold decodeTableWord at h
  split at h
  next hw =>
    split at h
    next hd => exact ⟨hw.2, Option.some.inj h ▸ hd⟩
    next => cases h
  next => cases h

/-- Settles O48: the placed turn heads the schedule, presents the word on its command's port, and taken off leaves the
schedule as it was. -/
theorem placedWordRunsNext : Obligations.PlacedWordRunsNext := by
  unfold Obligations.PlacedWordRunsNext
  intro s nbits w i hr h
  obtain ⟨hlt, hd⟩ := decodeWord_of_decodeTableWord h
  rw [State.withFetchWord, Nat.mod_eq_of_lt hlt]
  calc step (placeWord s (BitVec.ofNat 32 w))
      = takeTurn (turnOfWord (BitVec.ofNat 32 w)) s := step_scripted _ _ s.script hr rfl
    _ = presentWord i.port (BitVec.ofNat 32 w) s := takeTurn_turnOfWord hd s
    _ = exec i s := presentWord_of_decode (decode_of_decodeWord hd) s

end Sys2Proof.Proofs
end

section
/-! PROOFS. The segment encoder (40_segment_encoder): SegEncode is read bit by bit (R101, R102), and ENC runs by the
digit its operand names (R100, 20_memory R51). -/

namespace Sys2Proof.Proofs

open Sys2Proof Sys2Proof.Machine

/-- Without the overlay SegEncode is the table's entry (R101). -/
theorem segEncode_zero (c : Config) (d : Fin 10) : segEncode c d 0#1 = c.segTable.get d := rfl

/-- With the overlay the mask of R101 takes bit DP_BIT out of the entry. -/
theorem getLsbD_segEncode_one (c : Config) (d : Fin 10) (k : Nat) :
    (segEncode c d 1#1).getLsbD k = ((c.segTable.get d).getLsbD k && !(k == c.dpBit.val)) := by
  rw [segEncode, if_pos rfl, lut, ← BitVec.twoPow_eq, BitVec.getLsbD_and, BitVec.getLsbD_not, BitVec.getLsbD_twoPow]
  by_cases hk : k < 8
  · simp [hk, beq_eq_decide, eq_comm]
  · simp [BitVec.getLsbD_of_ge _ k (Nat.le_of_not_lt hk)]

/-- Settles O7: the two values of the overlay bit are the two equations of SegEncode. -/
theorem segEncodeClearsOnlyThePoint : Obligations.SegEncodeClearsOnlyThePoint := by
  unfold Obligations.SegEncodeClearsOnlyThePoint
  intro c d dp k _
  obtain rfl | rfl := BitVec.eq_zero_or_eq_one dp
  · simp [segEncode_zero]
  · simp [getLsbD_segEncode_one]

/-- The overlay darkens no segment: what it lights beside the digit's own segments sits on bit DP_BIT (R101, 00_scope
R16). -/
theorem lit_segEncode_one_iff (c : Config) (d : Fin 10) (x : Segment) :
    lit c (segEncode c d 1#1) x = true ↔ lit c (segEncode c d 0#1) x = true ∨ segmentBit c x = c.dpBit := by
  rw [lit, lit, segEncode_zero, getLsbD_segEncode_one]
  simp [Fin.ext_iff]

/-- Under the check of DP_BIT the table's entry keeps the point dark (00_scope R10 (1), R16). -/
theorem lit_segEncode_zero_dp {c : Config} (hc : c.wellFormed = true) (d : Fin 10) :
    lit c (segEncode c d 0#1) .dp = false := by
  obtain ⟨hdark, _, _⟩ := (wellFormed_iff c).mp hc
  rw [lit, segEncode_zero, segmentBit, hdark d, Bool.not_true]

/-- Settles O8: the check keeps the point dark, the overlay lights what sits on its bit, and off that bit the equations
of SegEncode agree. -/
theorem overlayLightsThePoint : Obligations.OverlayLightsThePoint := by
  unfold Obligations.OverlayLightsThePoint
  intro c d hc
  refine ⟨lit_segEncode_zero_dp hc d, (lit_segEncode_one_iff c d .dp).mpr (Or.inr rfl), fun k _ hk => ?_⟩
  simp [segEncode_zero, getLsbD_segEncode_one, hk]

/-- Settles O57: where the assignment is one-to-one, only the point sits on bit DP_BIT. -/
theorem overlayKeepsSegments : Obligations.OverlayKeepsSegments := by
  unfold Obligations.OverlayKeepsSegments
  intro c d x _ hdistinct
  have hpoint : segmentBit c x = c.dpBit ↔ x = .dp :=
    ⟨fun h => segmentBit_injective hdistinct h, fun h => by rw [h, segmentBit]⟩
  rw [lit_segEncode_one_iff, hpoint]

theorem digitOperand_of_lt {digit : BitVec 4} (h : digit.toNat < 10) : digitOperand digit = some ⟨digit.toNat, h⟩ :=
  dif_pos h

theorem digitOperand_of_ge {digit : BitVec 4} (h : 10 ≤ digit.toNat) : digitOperand digit = none :=
  dif_neg (Nat.not_lt.mpr h)

/-- ENC while not BUSY, of an operand that names a digit (R100). -/
theorem exec_enc_of_digit {s : State} {digit : BitVec 4} {d : Fin 10} (hb : busy s = false)
    (hd : digitOperand digit = some d) (dp : BitVec 1) :
    exec (.enc dp digit) s = .next (s.withRes ((segEncode s.cfg d dp).setWidth 16)) := by
  rw [exec, execEnc, whenIdle_of_idle _ _ _ hb, hd]

/-- ENC while not BUSY, of an operand that names no digit (R100, 20_memory R51). -/
theorem exec_enc_of_no_digit {s : State} {digit : BitVec 4} (hb : busy s = false) (hd : digitOperand digit = none)
    (dp : BitVec 1) : exec (.enc dp digit) s = .next (s.withFault (.digitRange digit)) := by
  rw [exec, execEnc, whenIdle_of_idle _ _ _ hb, hd, raiseFault]

/-- Settles O9: an operand below 10 names its digit. -/
theorem encWritesPattern : Obligations.EncWritesPattern := by
  unfold Obligations.EncWritesPattern
  intro s dp digit h hb
  exact exec_enc_of_digit hb (digitOperand_of_lt h) dp

/-- Settles O10: an operand of 10 or more names no digit. -/
theorem encFaultsOnDigitRange : Obligations.EncFaultsOnDigitRange := by
  unfold Obligations.EncFaultsOnDigitRange
  intro s dp digit h hb
  exact exec_enc_of_no_digit hb (digitOperand_of_ge h) dp

end Sys2Proof.Proofs
end

section
/-! PROOFS. The shift register bus (41_shift_register_bus): COMMIT (R110, R111) and its frame, the serializer's steps
with the device's edge rules (R112 to R118), and the only change of the outputs (R118, R120). -/

namespace Sys2Proof.Proofs

open Sys2Proof Sys2Proof.Machine

/-! A frame's two bytes (20_memory R55, R56). -/

theorem frameWord_eq_append (seg en : Byte) : frameWord seg en = seg ++ en :=
  BitVec.setWidth_append_eq_shiftLeft_setWidth_or.symm.trans (BitVec.setWidth_eq _)

theorem highByte_frameWord (seg en : Byte) : highByte (frameWord seg en) = seg := by
  rw [frameWord_eq_append]
  exact BitVec.extractLsb'_append_eq_left

theorem lowByte_frameWord (seg en : Byte) : lowByte (frameWord seg en) = en := by
  rw [frameWord_eq_append]
  exact BitVec.extractLsb'_append_eq_right

theorem frameWord_toNat (seg en : Byte) : (frameWord seg en).toNat = 256 * seg.toNat + en.toNat := by
  rw [frameWord_eq_append, BitVec.toNat_append, ← Nat.shiftLeft_add_eq_or_of_lt en.isLt, Nat.shiftLeft_eq, Nat.mul_comm]

theorem getLsbD_frameWord (seg en : Byte) (i : Nat) :
    (frameWord seg en).getLsbD i = if i < 8 then en.getLsbD i else seg.getLsbD (i - 8) := by
  rw [frameWord_eq_append, BitVec.getLsbD_append]

theorem highByte_eq_ofNat (h : Half) : highByte h = BitVec.ofNat 8 (h.toNat / 256) :=
  BitVec.eq_of_toNat_eq (by simp [highByte, Nat.shiftRight_eq_div_pow])

theorem lowByte_eq_ofNat (h : Half) : lowByte h = BitVec.ofNat 8 h.toNat :=
  BitVec.eq_of_toNat_eq (by simp [lowByte])

theorem frameBit_of_lt (frame : Half) {cnt : BitVec 5} (h : cnt.toNat < 16) :
    frameBit frame cnt = frame.getLsbD (15 - cnt.toNat) :=
  if_pos h

theorem shiftIn_eq_ofNat (chain : Half) (b : Bool) : shiftIn chain b = BitVec.ofNat 16 (2 * chain.toNat + b.toNat) :=
  BitVec.eq_of_toNat_eq (by
    rw [shiftIn, BitVec.toNat_shiftConcat, BitVec.toNat_ofNat, Nat.shiftLeft_eq]
    omega)

/-! COMMIT. -/

/-- Settles O11: while not BUSY COMMIT is its body, and the frame word is the two bytes in order. -/
theorem commitStartsTransfer : Obligations.CommitStartsTransfer := by
  unfold Obligations.CommitStartsTransfer
  intro s seg en hb
  have hframe : BitVec.ofNat 16 (256 * seg.toNat + en.toNat) = frameWord seg en := by
    rw [← frameWord_toNat, BitVec.ofNat_toNat, BitVec.setWidth_eq]
  rw [exec, execCommit, whenIdle_of_idle _ _ _ hb, srStart, hframe]

/-- Settles O43: COMMIT faults or starts the serializer, and each of the two updates leaves the fields it does not
name. -/
theorem frameOfCommit : Obligations.FrameOfCommit := by
  unfold Obligations.FrameOfCommit
  intro seg en s t h
  rcases execCommit_next h with ⟨_, rfl⟩ | ⟨_, rfl⟩ <;> simp

/-! The edges of the device. -/

/-- A rising CLK shifts, and a CLK that is high already does nothing (R117). -/
theorem driveClk_true (s : State) :
    driveClk true s = { s with clk := true, devChain := if s.clk then s.devChain else shiftIn s.devChain s.data } := by
  cases h : s.clk <;> simp [driveClk, h]

theorem driveClk_false (s : State) : driveClk false s = { s with clk := false } := rfl

theorem driveLatch_false (s : State) : driveLatch false s = { s with latch := false } := rfl

/-- A rising LATCH moves the chain to the outputs (R118). -/
theorem driveLatch_true (s : State) :
    driveLatch true s =
      if s.latch then { s with latch := true }
      else { s with latch := true, devSegOut := highByte s.devChain, devEnOut := lowByte s.devChain,
                    frames := s.frames ++ [(highByte s.devChain, lowByte s.devChain)] } := by
  cases h : s.latch <;> simp [driveLatch, h]

/-- Settles O12: each step is its `await` and its `drive`, and the device's edge rules are read as numbers. -/
theorem serializerSteps : Obligations.SerializerSteps := by
  unfold Obligations.SerializerSteps
  intro s
  refine ⟨rfl, fun hcnt => ?_, ?_, rfl, ?_⟩
  · rw [← frameBit_of_lt s.srFrame hcnt]
    rfl
  · simp only [runInternal, stepSrClkHi, driveClk_true, shiftIn_eq_ofNat]
    rfl
  · simp only [runInternal, stepSrLatchHi, driveLatch_true, highByte_eq_ofNat, lowByte_eq_ofNat,
      apply_ite (State.withSrPhase · .idle)]
    rfl

/-- The only writer of the outputs and of FRAMES (R118, R120). -/
theorem latched_of_output_changed {turn : Turn} {s t : State} (h : Effect turn s t)
    (hne : t.devSegOut ≠ s.devSegOut ∨ t.devEnOut ≠ s.devEnOut ∨ t.frames ≠ s.frames) :
    turn = .internal .srLatchHi ∧ s.srPhase = .latchHi ∧ s.latch = false ∧ t.latch = true ∧
      t.frames = s.frames ++ [(t.devSegOut, t.devEnOut)] := by
  cases h with
  | srLatchHi s hp =>
    have hrise : s.latch = false := by
      by_contra hl
      simp [hl] at hne
    simp [hp, hrise]
  | _ => simp at hne

/-- Settles O15: of the transitions only SR_LATCH_HI's rising edge of LATCH writes the outputs. -/
theorem outputsChangeOnlyAtLatch : Obligations.OutputsChangeOnlyAtLatch := by
  unfold Obligations.OutputsChangeOnlyAtLatch
  intro s t h hne
  obtain ⟨_, l, n, he⟩ := step_effect h
  exact (latched_of_output_changed he :) hne

end Sys2Proof.Proofs
end

section
/-! PROOFS. Runs of internal steps (30_encoding R80): such a run is a fold that neither faults nor reads the schedule,
and clock turns put between its steps are not seen in its view (20_memory R61). -/

namespace Sys2Proof.Proofs

open Sys2Proof Sys2Proof.Machine

/-- The state after the turn of an internal step; one that is not enabled passes (log entry 3). -/
def afterInternal (s : State) (k : Internal) : State :=
  (runInternal k s).getD s

/-- The state after the turns of a list of internal steps. -/
def afterInternals (ks : List Internal) (s : State) : State :=
  ks.foldl afterInternal s

@[simp] theorem afterInternals_nil (s : State) : afterInternals [] s = s := rfl

@[simp] theorem afterInternals_cons (k : Internal) (ks : List Internal) (s : State) :
    afterInternals (k :: ks) s = afterInternals ks (afterInternal s k) := rfl

theorem afterInternals_append (js ks : List Internal) (s : State) :
    afterInternals (js ++ ks) s = afterInternals ks (afterInternals js s) :=
  List.foldl_append

theorem takeTurn_internal (k : Internal) (s : State) : takeTurn (.internal k) s = .next (afterInternal s k) := rfl

theorem effect_afterInternal (k : Internal) (s : State) : Effect (.internal k) s (afterInternal s k) :=
  effect_of_turn (takeTurn_internal k s)

/-- No internal step reads the schedule or writes it. -/
theorem runInternal_withSchedule (k : Internal) (s : State) (l : List Turn) (n : Nat) :
    runInternal k (s.withSchedule l n) = (runInternal k s).map (State.withSchedule · l n) := by
  cases k with
  | tick => simp only [runInternal, stepTick, Option.map_if]; rfl
  | muxLoad => simp only [runInternal, stepMuxLoad, Option.map_if]; rfl
  | muxSent => simp only [runInternal, stepMuxSent, Option.map_if]; rfl
  | dwellDone => simp only [runInternal, stepDwellDone, Option.map_if, apply_ite (State.withSchedule · l n)]; rfl
  | srLatchLo => simp only [runInternal, stepSrLatchLo, Option.map_if]; rfl
  | srData => simp only [runInternal, stepSrData, Option.map_if]; rfl
  | srClkHi => simp only [runInternal, stepSrClkHi, Option.map_if, driveClk_true]; rfl
  | srClkLo => simp only [runInternal, stepSrClkLo, Option.map_if]; rfl
  | srLatchHi =>
    simp only [runInternal, stepSrLatchHi, Option.map_if, driveLatch_true, apply_ite (State.withSrPhase · .idle),
      apply_ite (State.withSchedule · l n)]; rfl

theorem afterInternal_withSchedule (k : Internal) (s : State) (l : List Turn) (n : Nat) :
    afterInternal (s.withSchedule l n) k = (afterInternal s k).withSchedule l n := by
  rw [afterInternal, afterInternal, runInternal_withSchedule, Option.getD_map]

theorem afterInternals_withSchedule (ks : List Internal) (s : State) (l : List Turn) (n : Nat) :
    afterInternals ks (s.withSchedule l n) = (afterInternals ks s).withSchedule l n := by
  induction ks generalizing s with
  | nil => rfl
  | cons k ks ih => rw [afterInternals_cons, afterInternal_withSchedule, ih, afterInternals_cons]

/-- No internal step raises a fault: the fault reasons are raised by words and by the read (60_exceptions R171). -/
theorem runInternal_fault {k : Internal} {s t : State} (h : runInternal k s = some t) : t.fault = s.fault := by
  cases k with
  | tick => obtain ⟨_, rfl⟩ := stepTick_some h; rfl
  | muxLoad => obtain ⟨_, _, rfl⟩ := stepMuxLoad_some h; rfl
  | muxSent => obtain ⟨_, _, rfl⟩ := stepMuxSent_some h; rfl
  | dwellDone => obtain ⟨_, ⟨_, rfl⟩ | ⟨_, rfl⟩⟩ := stepDwellDone_some h <;> rfl
  | srLatchLo => obtain ⟨_, rfl⟩ := stepSrLatchLo_some h; rfl
  | srData => obtain ⟨_, rfl⟩ := stepSrData_some h; rfl
  | srClkHi => obtain ⟨_, rfl⟩ := stepSrClkHi_some h; simp
  | srClkLo => obtain ⟨_, rfl⟩ := stepSrClkLo_some h; rfl
  | srLatchHi => obtain ⟨_, rfl⟩ := stepSrLatchHi_some h; simp

theorem running_afterInternal {s : State} (h : Running s) (k : Internal) : Running (afterInternal s k) := by
  obtain ⟨hf, hc⟩ := h
  refine ⟨?_, by rwa [effect_cfg (effect_afterInternal k s)]⟩
  cases hk : runInternal k s with
  | none => rwa [afterInternal, hk]
  | some t => rwa [afterInternal, hk, Option.getD_some, runInternal_fault hk]

/-- No transition writes the script: the step has already taken the turn off it (log entry 1). -/
theorem effect_script {turn : Turn} {s t : State} (h : Effect turn s t) : t.script = s.script := by
  cases h <;> simp

theorem core_run_succ {M : Host.Core} {s u : M.State} (h : M.step s = .next u) (k : Nat) :
    M.run (k + 1) s = M.run k u := by
  simp only [Host.Core.run, h]

/-- The run of a script is its first turn and the run of the rest. -/
theorem runScript_cons {turn : Turn} {l : List Turn} {s u : State} (hr : Running s)
    (h : takeTurn turn (s.withSchedule l s.draws) = .next u) : runScript (turn :: l) s = runScript l u := by
  have hstep : step (s.withSchedule (turn :: l) s.draws) = .next u :=
    (step_scripted (s.withSchedule (turn :: l) s.draws) turn l hr rfl).trans h
  have hu : u.withSchedule l u.draws = u := congrArg (u.withSchedule · u.draws) (effect_script (effect_of_turn h)).symm
  rw [runScript, runScript, hu]
  exact core_run_succ (M := core) hstep l.length

/-- A running machine goes through a script of internal steps without a stop. -/
theorem runScript_internals {s : State} (hr : Running s) (ks : List Internal) :
    runScript (ks.map .internal) s = .next ((afterInternals ks s).withSchedule [] s.draws) := by
  induction ks generalizing s with
  | nil => rfl
  | cons k ks ih =>
    have hnext : Running ((afterInternal s k).withSchedule (ks.map .internal) s.draws) := running_afterInternal hr k
    rw [List.map_cons, runScript_cons hr (takeTurn_internal k _), afterInternal_withSchedule, ih hnext,
      afterInternals_withSchedule]
    rfl

theorem afterInternal_foreground {k : Internal} (hk : k ≠ .tick) (s : State) :
    foreground (afterInternal s k) = afterInternal (foreground s) k := by
  rw [afterInternal, afterInternal, runInternal_foreground hk, Option.getD_map]

theorem foreground_afterInternal_tick (s : State) : foreground (afterInternal s .tick) = foreground s := by
  rw [afterInternal, runInternal, stepTick]
  split <;> rfl

/-- A clock turn is not seen in the view (60_exceptions R174, R175). -/
theorem takeTurn_clock {turn : Turn} (h : turn.isClock = true) (s : State) :
    ∃ u, takeTurn turn s = .next u ∧ foreground u = foreground s := by
  rw [Turn.isClock, Bool.or_eq_true, beq_iff_eq, beq_iff_eq] at h
  rcases h with rfl | rfl
  · have hperiod : decode .timer periodWord = .ok .period := by decide
    exact ⟨_, presentWord_of_decode hperiod s, rfl⟩
  · exact ⟨_, takeTurn_internal .tick s, foreground_afterInternal_tick s⟩

/-- A script that a running machine goes through, with clock turns anywhere between its internal steps, has the view of
the internal steps alone. -/
theorem runScript_interleaves {l : List Turn} {ks : List Internal} {s : State} (hr : Running s)
    (hl : Interleaves l (ks.map .internal)) :
    ∃ t, runScript l s = .next t ∧ foreground t = afterInternals ks (foreground s) := by
  induction l generalizing ks s with
  | nil =>
    obtain rfl : ks = [] := List.map_eq_nil_iff.mp hl.symm
    exact ⟨_, rfl, rfl⟩
  | cons turn l ih =>
    cases hc : turn.isClock with
    | true =>
      obtain ⟨u, hu, hview⟩ := takeTurn_clock hc (s.withSchedule l s.draws)
      have hl' : Interleaves l (ks.map .internal) := by simpa [Interleaves, hc] using hl
      have hru : Running u := running_of_foreground_eq hview.symm hr
      rw [runScript_cons hr hu, ← foreground_withSchedule s l s.draws, ← hview]
      exact ih hru hl'
    | false =>
      have hl' : ks.map .internal = turn :: l.filter (fun t => !t.isClock) := by simpa [Interleaves, hc] using hl.symm
      obtain ⟨k, ks, rfl, rfl, htail⟩ := List.map_eq_cons_iff.mp hl'
      have hk : k ≠ .tick := by
        rintro rfl
        cases hc
      rw [runScript_cons hr (takeTurn_internal k _), afterInternals_cons, ← foreground_withSchedule s l s.draws,
        ← afterInternal_foreground hk]
      exact ih (running_afterInternal (s := s.withSchedule l s.draws) hr k) htail.symm

end Sys2Proof.Proofs
end

section
/-! PROOFS. A transfer as a whole (41_shift_register_bus R119, R121): the fold over its 50 steps is computed round by
round, and up to SR_LATCH_HI no step latches or ends it. -/

namespace Sys2Proof.Proofs

open Sys2Proof Sys2Proof.Machine

/-! The turns of a transfer (R119 (a)). -/

/-- The three steps that send one bit. -/
def bitSteps : List Internal :=
  [.srData, .srClkHi, .srClkLo]

/-- The steps of a transfer up to and with `k` bits. -/
def stepsToBit (k : Nat) : List Internal :=
  .srLatchLo :: (List.replicate k bitSteps).flatten

/-- The steps of a transfer. -/
def transferSteps : List Internal :=
  stepsToBit 16 ++ [.srLatchHi]

theorem transferTurns_eq : transferTurns = transferSteps.map .internal := by decide

theorem stepsToBit_succ (k : Nat) : stepsToBit (k + 1) = stepsToBit k ++ bitSteps := by
  simp [stepsToBit, List.replicate_succ']

/-- The rising clock edge of bit `k` is turn 3k + 2, after its SR_DATA. -/
theorem take_transferSteps_to_edge :
    ∀ k < 16, transferSteps.take (3 * k + 2) = stepsToBit k ++ [.srData] := by decide

/-! The serializer's steps where they are enabled (R112 to R116). -/

theorem afterInternal_srLatchLo {s : State} (h : s.srPhase = .latchLo) :
    afterInternal s .srLatchLo = { s with latch := false, srPhase := .data } := by
  rw [afterInternal, runInternal, stepSrLatchLo, if_pos h]
  rfl

theorem afterInternal_srData {s : State} (h : s.srPhase = .data) :
    afterInternal s .srData = { s with data := frameBit s.srFrame s.srCnt, srPhase := .clkHi } := by
  rw [afterInternal, runInternal, stepSrData, if_pos h]
  rfl

theorem afterInternal_srClkHi {s : State} (h : s.srPhase = .clkHi) (hclk : s.clk = false) :
    afterInternal s .srClkHi = { s with clk := true, devChain := shiftIn s.devChain s.data, srPhase := .clkLo } := by
  simp [afterInternal, runInternal, stepSrClkHi, h, driveClk_true, hclk, State.withSrPhase]

theorem afterInternal_srClkLo {s : State} (h : s.srPhase = .clkLo) :
    afterInternal s .srClkLo =
      { s with clk := false, srCnt := s.srCnt + 1#5, srPhase := if s.srCnt + 1#5 = 16#5 then .latchHi else .data } := by
  rw [afterInternal, runInternal, stepSrClkLo, if_pos h]
  rfl

theorem afterInternal_srLatchHi {s : State} (h : s.srPhase = .latchHi) (hlatch : s.latch = false) :
    afterInternal s .srLatchHi =
      { s with latch := true, devSegOut := highByte s.devChain, devEnOut := lowByte s.devChain,
               frames := s.frames ++ [(highByte s.devChain, lowByte s.devChain)], srPhase := .idle } := by
  simp [afterInternal, runInternal, stepSrLatchHi, h, driveLatch_true, hlatch, State.withSrPhase]

/-! A transfer, bit by bit. -/

/-- The transfer of `f` begun in `s`, when `k` bits are out: the chain has let its oldest `k` bits go and taken the
first `k` bits of the frame (R117). -/
def bitsOut (f : Half) (k : Nat) (s : State) : State :=
  { s with srFrame := f, srCnt := BitVec.ofNat 5 k, srPhase := if k = 16 then .latchHi else .data, latch := false,
           clk := false, devChain := s.devChain <<< k ||| f >>> (16 - k),
           data := match k with
             | 0 => s.data
             | j + 1 => f.getLsbD (15 - j) }

/-- A shift takes the next bit of the frame in behind those before it. -/
theorem shiftIn_next_bit (c f : Half) {k : Nat} (hk : k < 16) :
    shiftIn (c <<< k ||| f >>> (16 - k)) (f.getLsbD (15 - k)) = c <<< (k + 1) ||| f >>> (16 - (k + 1)) := by
  ext i hi
  cases i with
  | zero => simp [shiftIn, BitVec.getElem_shiftConcat]
  | succ i =>
    have hbit : 15 - k + (i + 1) = 16 - k + i := by omega
    simp [shiftIn, hbit]

/-- SR_LATCH_LO finds CLK low and the chain as the last transfer left it. -/
theorem afterInternal_srLatchLo_srStart (seg en : Byte) {s : State} (hclk : s.clk = false) :
    afterInternal (srStart seg en s) .srLatchLo = bitsOut (frameWord seg en) 0 s := by
  rw [afterInternal_srLatchLo rfl]
  simp [bitsOut, srStart, hclk, BitVec.ushiftRight_eq_zero (x := frameWord seg en) le_rfl]

/-- The bit that SR_DATA presents in round `k` (R113). -/
theorem afterInternal_srData_bitsOut (f : Half) {k : Nat} (hk : k < 16) (s : State) :
    afterInternal (bitsOut f k s) .srData = { bitsOut f k s with data := f.getLsbD (15 - k), srPhase := .clkHi } := by
  have hcnt : (BitVec.ofNat 5 k).toNat = k := Nat.mod_eq_of_lt (by omega)
  have hbit : frameBit f (BitVec.ofNat 5 k) = f.getLsbD (15 - k) := by
    rw [frameBit_of_lt f (by rwa [hcnt]), hcnt]
  rw [afterInternal_srData (if_neg hk.ne), ← hbit]
  rfl

theorem afterInternals_bitSteps (f : Half) {k : Nat} (hk : k < 16) (s : State) :
    afterInternals bitSteps (bitsOut f k s) = bitsOut f (k + 1) s := by
  have hlast : BitVec.ofNat 5 k + 1#5 = 16#5 ↔ k + 1 = 16 := by bv_omega
  rw [bitSteps, afterInternals_cons, afterInternal_srData_bitsOut f hk, afterInternals_cons,
    afterInternal_srClkHi rfl rfl, afterInternals_cons, afterInternal_srClkLo rfl, afterInternals_nil]
  simp only [bitsOut, hlast, shiftIn_next_bit _ _ hk, BitVec.ofNat_add]

theorem afterInternals_stepsToBit (seg en : Byte) {s : State} (hclk : s.clk = false) {k : Nat} (hk : k ≤ 16) :
    afterInternals (stepsToBit k) (srStart seg en s) = bitsOut (frameWord seg en) k s := by
  induction k with
  | zero => exact afterInternal_srLatchLo_srStart seg en hclk
  | succ k ih => rw [stepsToBit_succ, afterInternals_append, ih (by omega), afterInternals_bitSteps _ hk]

/-- The end of a transfer of `seg : en` begun in `s` (R119 (d), (e)). -/
def transferred (seg en : Byte) (s : State) : State :=
  { s with srFrame := frameWord seg en, srCnt := 16#5, srPhase := .idle, latch := true, clk := false,
           data := en.getLsbD 0, devChain := frameWord seg en, devSegOut := seg, devEnOut := en,
           frames := s.frames ++ [(seg, en)] }

theorem afterInternals_transferSteps (seg en : Byte) {s : State} (hclk : s.clk = false) :
    afterInternals transferSteps (srStart seg en s) = transferred seg en s := by
  have hdata : (bitsOut (frameWord seg en) 16 s).data = en.getLsbD 0 := getLsbD_frameWord seg en 0
  have hchain : (bitsOut (frameWord seg en) 16 s).devChain = frameWord seg en := by simp [bitsOut]
  rw [transferSteps, afterInternals_append, afterInternals_stepsToBit seg en hclk le_rfl, afterInternals_cons,
    afterInternal_srLatchHi rfl rfl, hchain, highByte_frameWord, lowByte_frameWord, hdata, afterInternals_nil]
  rfl

/-! Before SR_LATCH_HI (R119 (c)). -/

/-- The serializer is at work and the display still shows what it showed in `s`. -/
def Unlatched (s u : State) : Prop :=
  u.srPhase ≠ .idle ∧ u.devSegOut = s.devSegOut ∧ u.devEnOut = s.devEnOut ∧ u.frames = s.frames

/-- Only SR_LATCH_HI ends a transfer (R116). -/
theorem srPhase_ne_idle_of_effect {k : Internal} {s t : State} (h : Effect (.internal k) s t) (hk : k ≠ .srLatchHi)
    (hs : s.srPhase ≠ .idle) : t.srPhase ≠ .idle := by
  cases h with
  | srLatchHi => exact absurd rfl hk
  | srClkLo => simp only [State.withSrPhase_srPhase]; split <;> decide
  | _ => simp [hs]

/-- Only SR_LATCH_HI writes the outputs and FRAMES (R118, R120). -/
theorem outputs_of_effect {k : Internal} {s t : State} (h : Effect (.internal k) s t) (hk : k ≠ .srLatchHi) :
    t.devSegOut = s.devSegOut ∧ t.devEnOut = s.devEnOut ∧ t.frames = s.frames := by
  by_contra hne
  rw [not_and_or, not_and_or] at hne
  obtain ⟨hturn, _⟩ := latched_of_output_changed h hne
  exact hk (Turn.internal.inj hturn)

theorem unlatched_afterInternal {s u : State} {k : Internal} (hu : Unlatched s u) (hk : k ≠ .srLatchHi) :
    Unlatched s (afterInternal u k) := by
  obtain ⟨hphase, hseg, hen, hframes⟩ := hu
  obtain ⟨hseg', hen', hframes'⟩ := outputs_of_effect (effect_afterInternal k u) hk
  exact ⟨srPhase_ne_idle_of_effect (effect_afterInternal k u) hk hphase, hseg'.trans hseg, hen'.trans hen,
    hframes'.trans hframes⟩

theorem unlatched_afterInternals {s u : State} {ks : List Internal} (hu : Unlatched s u) (hks : .srLatchHi ∉ ks) :
    Unlatched s (afterInternals ks u) := by
  induction ks generalizing u with
  | nil => exact hu
  | cons k ks ih =>
    obtain ⟨hk, hks⟩ := not_or.mp (mt List.mem_cons.mpr hks)
    exact ih (unlatched_afterInternal hu (Ne.symm hk)) hks

/-- SR_LATCH_HI is the last step of a transfer. -/
theorem srLatchHi_notMem_take {n : Nat} (hn : n < 50) : Internal.srLatchHi ∉ transferSteps.take n := by
  have hbefore : Internal.srLatchHi ∉ stepsToBit 16 := by decide
  rw [transferSteps, List.take_append_of_le_length (Nat.le_of_lt_succ hn)]
  exact fun h => hbefore (List.mem_of_mem_take h)

/-- The bits of a frame in the order they are sent: SEG from its bit 7, then EN from its bit 7 (R119 (b)). -/
theorem sent_bit_of_frameWord (seg en : Byte) {k : Nat} (hk : k < 16) :
    (frameWord seg en).getLsbD (15 - k) = if k < 8 then seg.getLsbD (7 - k) else en.getLsbD (15 - k) := by
  by_cases h : k < 8
  · have hidx : 15 - k - 8 = 7 - k := by omega
    rw [getLsbD_frameWord, if_neg (by omega), if_pos h, hidx]
  · rw [getLsbD_frameWord, if_pos (by omega), if_neg h]

/-- The run of a transfer's first `n` turns. -/
theorem runScript_take_transferTurns {s : State} (hr : Running s) (seg en : Byte) (n : Nat) :
    runScript (transferTurns.take n) (srStart seg en s) =
      .next ((afterInternals (transferSteps.take n) (srStart seg en s)).withSchedule [] s.draws) := by
  rw [transferTurns_eq, ← List.map_take]
  exact runScript_internals (s := srStart seg en s) hr _

/-- Settles O13: before SR_LATCH_HI no step latches or ends the transfer, at a rising edge DATA is the round's bit, and
the last step latches the frame that the sixteen rounds have shifted in. -/
theorem transferAsAWhole : Obligations.TransferAsAWhole := by
  unfold Obligations.TransferAsAWhole
  intro s seg en hr hclk
  refine ⟨by decide, fun n hn => ⟨_, runScript_take_transferTurns hr seg en n, ?_⟩, by decide,
    fun k hk => ⟨_, runScript_take_transferTurns hr seg en (3 * k + 2), ?_⟩, ?_⟩
  · have hstart : Unlatched s (srStart seg en s) := ⟨nofun, rfl, rfl, rfl⟩
    exact unlatched_afterInternals hstart (srLatchHi_notMem_take hn)
  · rw [take_transferSteps_to_edge k hk, afterInternals_append, afterInternals_stepsToBit seg en hclk hk.le,
      afterInternals_cons, afterInternal_srData_bitsOut _ hk]
    exact ⟨rfl, sent_bit_of_frameWord seg en hk⟩
  · refine ⟨(transferred seg en s).withSchedule [] s.draws, ?_, rfl, frameWord_toNat seg en, rfl, rfl, rfl, rfl, rfl,
      rfl⟩
    rw [transferTurns_eq, runScript_internals (s := srStart seg en s) hr, afterInternals_transferSteps seg en hclk]
    rfl

/-- Settles O14: the view of the interleaved run is that of the transfer alone, and it keeps the outputs and FRAMES. -/
theorem interleavedTransferLatchesFrame : Obligations.InterleavedTransferLatchesFrame := by
  unfold Obligations.InterleavedTransferLatchesFrame
  intro s seg en l hr hclk hl
  obtain ⟨t, ht, hview⟩ := runScript_interleaves (s := srStart seg en s) hr (transferTurns_eq ▸ hl)
  have hend : foreground t = transferred seg en (foreground s) :=
    hview.trans (afterInternals_transferSteps seg en (s := foreground s) hclk)
  exact ⟨t, ht, (congrArg State.fault hend).trans hr.1, congrArg State.srPhase hend, congrArg State.devSegOut hend,
    congrArg State.devEnOut hend, congrArg State.frames hend⟩

end Sys2Proof.Proofs
end

section
/-! PROOFS. The display multiplexer (42_display_multiplexer): RENDER by the operand its policy accepts (R131, R132) and
its frame, the sequencer's steps (R133 to R135), and what is shown during a dwell (R136, R141). -/

namespace Sys2Proof.Proofs

open Sys2Proof Sys2Proof.Machine

/-! RENDER. -/

/-- Extending the sign keeps the value (30_encoding R75). -/
theorem renderValue_eq_toInt (value : Half) : renderValue value = value.toInt :=
  BitVec.toInt_signExtend_of_le (by decide)

/-- A negative value under CLAMP0 shows 0, which is also what `Int.toNat` makes of it (R131). -/
theorem renderOperand_of_accepted {p : NegPolicy} {v : Int} (h : 0 ≤ v ∨ p = .clamp0) :
    renderOperand p v = some v.toNat := by
  unfold renderOperand
  split
  next hneg =>
    obtain rfl : p = .clamp0 := h.resolve_left (Int.not_le.mpr hneg)
    rw [Int.toNat_of_nonpos hneg.le]
  next => rfl

theorem renderOperand_of_rejected {p : NegPolicy} {v : Int} (hneg : v < 0) (hp : p = .fault) :
    renderOperand p v = none := by
  simp only [renderOperand, if_pos hneg, hp]

/-- RENDER while not BUSY, of a value that the policy accepts (R131). -/
theorem exec_render_of_accepted {s : State} {value : Half} (hb : busy s = false)
    (h : 0 ≤ value.toInt ∨ s.cfg.negPolicy = .clamp0) (ud : BitVec 1) (dpi : BitVec 2) :
    exec (.render ud dpi value) s = .next (s.withRender (decimalDigits value.toInt.toNat) ud dpi) := by
  rw [exec, execRender, whenIdle_of_idle _ _ _ hb, renderValue_eq_toInt, renderOperand_of_accepted h]

/-- Settles O17: the accepted operand is the value, or 0 for a negative one. -/
theorem renderLatchesDigits : Obligations.RenderLatchesDigits := by
  unfold Obligations.RenderLatchesDigits
  intro s ud dpi value hb h
  exact exec_render_of_accepted hb h ud dpi

/-- Settles O18: the FAULT policy accepts no operand for a negative value. -/
theorem renderFaultsOnNegative : Obligations.RenderFaultsOnNegative := by
  unfold Obligations.RenderFaultsOnNegative
  intro s ud dpi value hb hneg hp
  rw [exec, execRender, whenIdle_of_idle _ _ _ hb, renderValue_eq_toInt, renderOperand_of_rejected hneg hp]
  rfl

/-- The digit of each position is the decimal digit of its weight (R131, R132). -/
theorem decimalDigits_get (u : Nat) (p : Fin 4) :
    (decimalDigits u).get p = Fin.ofNat 10 (u / 10 ^ (3 - p.val)) := by
  fin_cases p
  · rfl
  · rfl
  · rfl
  · exact congrArg (Fin.ofNat 10) (Nat.div_one u).symm

/-- The digits by their weights are the low four decimal digits (R132). -/
theorem decimalDigits_weighted_sum (u : Nat) :
    u % 10000 = 1000 * ((decimalDigits u).get 0).val + 100 * ((decimalDigits u).get 1).val
      + 10 * ((decimalDigits u).get 2).val + ((decimalDigits u).get 3).val := by
  change u % 10000 = 1000 * (u / 1000 % 10) + 100 * (u / 100 % 10) + 10 * (u / 10 % 10) + u % 10
  omega

/-- Settles O19: the digits latched are the remainders by 10 of the value's quotients by the four weights. -/
theorem renderShowsLowFourDigits : Obligations.RenderShowsLowFourDigits := by
  unfold Obligations.RenderShowsLowFourDigits
  intro s ud dpi value hb h
  exact ⟨_, exec_render_of_accepted hb (.inl h) ud dpi, rfl, decimalDigits_weighted_sum value.toInt.toNat⟩

/-- Settles O44: RENDER faults or latches its arguments, and each of the two updates leaves the fields it does not
name. -/
theorem frameOfRender : Obligations.FrameOfRender := by
  unfold Obligations.FrameOfRender
  intro ud dpi value s t h
  rcases execRender_next h with ⟨_, rfl⟩ | ⟨_, _, rfl⟩ | ⟨_, u, _, rfl⟩ <;> simp

/-! The sequencer. -/

/-- Settles O20: each step is its `await` and its effect, and the position is read as a number. -/
theorem sequencerSteps : Obligations.SequencerSteps := by
  unfold Obligations.SequencerSteps
  intro s
  have hlast : s.muxPos.toNat = 3 ↔ s.muxPos = 3#2 := BitVec.toNat_inj (y := 3#2)
  have hnext : BitVec.ofNat 2 (s.muxPos.toNat + 1) = s.muxPos + 1#2 := by bv_omega
  refine ⟨rfl, rfl, ?_⟩
  simp only [hlast, hnext]
  rfl

/-! The dwell. -/

/-- Two bytes with one bit each meet only where they are equal. -/
theorem and_ne_zero_iff_of_oneHot {a b : Byte} (ha : oneHot a = true) (hb : oneHot b = true) :
    a &&& b ≠ 0#8 ↔ a = b := by
  obtain ⟨j, hj, hja⟩ := (oneHot_iff a).mp ha
  obtain ⟨k, hk, hkb⟩ := (oneHot_iff b).mp hb
  constructor
  · intro hne
    by_contra hab
    have hjk : j ≠ k := by
      rintro rfl
      exact hab (BitVec.eq_of_getLsbD_eq fun i hi => Bool.eq_iff_iff.mpr ((hja i hi).trans (hkb i hi).symm))
    refine hne (BitVec.eq_of_getLsbD_eq fun i hi => ?_)
    rw [BitVec.getLsbD_and, BitVec.getLsbD_zero, Bool.and_eq_false_iff, ← Bool.not_eq_true, ← Bool.not_eq_true,
      hja i hi, hkb i hi]
    omega
  · rintro rfl hzero
    have hbit : a.getLsbD j = true := (hja j hj).mpr rfl
    rw [BitVec.and_self] at hzero
    simp [hzero] at hbit

/-- Under the checks every position's enable mask has one bit (00_scope R10 (2)). -/
theorem oneHot_enableOf {c : Config} (hc : c.wellFormed = true) (p : BitVec 2) : oneHot (enableOf c p) = true := by
  obtain ⟨_, hone, _⟩ := (wellFormed_iff c).mp hc
  exact (oneHot_iff _).mpr (hone p.toFin)

/-- Under the checks the masks of two positions differ (00_scope R10 (3)). -/
theorem enableOf_inj {c : Config} (hc : c.wellFormed = true) {p q : BitVec 2} :
    enableOf c p = enableOf c q ↔ p = q := by
  obtain ⟨_, _, hdistinct⟩ := (wellFormed_iff c).mp hc
  refine ⟨fun h => ?_, fun h => h ▸ rfl⟩
  by_contra hne
  exact hdistinct _ _ (fun hfin => hne (BitVec.eq_of_toFin_eq hfin)) h

/-- Under the checks a position's mask enables that position alone (R141). -/
theorem enabledPositions_enableOf {c : Config} (hc : c.wellFormed = true) (p : BitVec 2) :
    enabledPositions c (enableOf c p) = [p] := by
  have hmeets (q : BitVec 2) : (enableOf c p &&& enableOf c q != 0#8) = (p == q) := by
    rw [Bool.eq_iff_iff, bne_iff_ne, beq_iff_eq,
      and_ne_zero_iff_of_oneHot (oneHot_enableOf hc p) (oneHot_enableOf hc q), enableOf_inj hc]
  have hfilter : ∀ p : BitVec 2, [0#2, 1#2, 2#2, 3#2].filter (p == ·) = [p] := by decide
  rw [enabledPositions, List.filter_congr fun q _ => hmeets q, hfilter]

/-- Settles O23: in a dwell the last frame latched is the current position's, and its second byte is that position's
mask. -/
theorem dwellShowsOneDigit : Obligations.DwellShowsOneDigit := by
  unfold Obligations.DwellShowsOneDigit
  intro s hinv hc hdwell
  have hframe : currentFrame s = (s.devSegOut, s.devEnOut) :=
    hinv.outputs_last _ (hinv.shown_frame (.inr hdwell))
  have hen : s.devEnOut = enableOf s.cfg s.muxPos := (congrArg Prod.snd hframe).symm
  rw [hen]
  exact ⟨hen ▸ hframe.symm, oneHot_enableOf hc s.muxPos, enabledPositions_enableOf hc s.muxPos⟩

end Sys2Proof.Proofs
end

section
/-! PROOFS. A RENDER as a whole (42_display_multiplexer R130, R137, R139): the fold over its 212 steps is computed
position by position, each of which loads, transfers its frame and dwells. -/

namespace Sys2Proof.Proofs

open Sys2Proof Sys2Proof.Machine

/-! The turns of a RENDER (R139). -/

/-- The steps of a position up to the latch of its frame. -/
def stepsToLatch : List Internal :=
  .muxLoad :: transferSteps

/-- The steps of a position. -/
def positionSteps : List Internal :=
  stepsToLatch ++ [.muxSent, .dwellDone]

/-- The steps of the first `p` positions. -/
def stepsToPosition (p : Nat) : List Internal :=
  (List.replicate p positionSteps).flatten

theorem renderTurns_eq : renderTurns = (stepsToPosition 4).map .internal := by
  rw [renderTurns, positionTurns, transferTurns_eq, stepsToPosition, List.map_flatten, List.map_replicate]
  rfl

theorem stepsToPosition_succ (p : Nat) : stepsToPosition (p + 1) = stepsToPosition p ++ positionSteps := by
  simp [stepsToPosition, List.replicate_succ']

theorem length_stepsToPosition (p : Nat) : (stepsToPosition p).length = 53 * p := by
  have hlength : positionSteps.length = 53 := by decide
  simp [stepsToPosition, hlength, Nat.mul_comm]

theorem stepsToPosition_add (p q : Nat) : stepsToPosition (p + q) = stepsToPosition p ++ stepsToPosition q := by
  rw [stepsToPosition, ← List.replicate_append_replicate, List.flatten_append]
  rfl

/-- A RENDER cut within a position: the positions before it, and the start of its own steps. -/
theorem take_stepsToPosition {p m r : Nat} (hp : p < m) (hr : r ≤ 53) :
    (stepsToPosition m).take (53 * p + r) = stepsToPosition p ++ positionSteps.take r := by
  obtain ⟨k, rfl⟩ := Nat.exists_eq_add_of_lt hp
  have hcut : stepsToPosition (p + k + 1) = stepsToPosition p ++ (positionSteps ++ stepsToPosition k) := by
    rw [Nat.add_assoc, Nat.add_comm k, stepsToPosition_add, stepsToPosition_add]
    simp [stepsToPosition]
  rw [hcut, ← length_stepsToPosition p, List.take_length_add_append,
    List.take_append_of_le_length (hr.trans_eq (by decide))]

/-! The sequencer's steps where they are enabled (R133 to R135). -/

theorem afterInternal_muxLoad {s : State} (hm : s.muxPhase = .load) (hs : s.srPhase = .idle) :
    afterInternal s .muxLoad = srStart (currentFrame s).1 (currentFrame s).2 (s.withMuxPhase .send) := by
  rw [afterInternal, runInternal, stepMuxLoad, if_pos ⟨hm, hs⟩]
  rfl

theorem afterInternal_muxSent {s : State} (hm : s.muxPhase = .send) (hs : s.srPhase = .idle) :
    afterInternal s .muxSent = s.withMuxPhase .dwell := by
  rw [afterInternal, runInternal, stepMuxSent, if_pos ⟨hm, hs⟩]
  rfl

theorem afterInternal_dwellDone_last {s : State} (hm : s.muxPhase = .dwell) (hp : s.muxPos = 3#2) :
    afterInternal s .dwellDone = s.withMuxPhase .idle := by
  rw [afterInternal, runInternal, stepDwellDone, if_pos hm, if_pos hp]
  rfl

theorem afterInternal_dwellDone_next {s : State} (hm : s.muxPhase = .dwell) (hp : s.muxPos ≠ 3#2) :
    afterInternal s .dwellDone = (s.withMuxPos (s.muxPos + 1#2)).withMuxPhase .load := by
  rw [afterInternal, runInternal, stepDwellDone, if_pos hm, if_neg hp]
  rfl

/-! A position. -/

/-- The multiplexer is about to load a position, the serializer at rest. -/
structure Loading (s : State) : Prop where
  muxPhase : s.muxPhase = .load
  srPhase : s.srPhase = .idle
  clk : s.clk = false

/-- The frame of the current position latched, in multiplexer phase `m` (R133, R119 (d)). -/
def positionLatched (m : MuxPhase) (s : State) : State :=
  transferred (currentFrame s).1 (currentFrame s).2 (s.withMuxPhase m)

theorem afterInternals_stepsToLatch {s : State} (h : Loading s) :
    afterInternals stepsToLatch s = positionLatched .send s := by
  rw [stepsToLatch, afterInternals_cons, afterInternal_muxLoad h.muxPhase h.srPhase,
    afterInternals_transferSteps _ _ (s := s.withMuxPhase .send) h.clk]
  rfl

/-- A position ends with the end of its dwell (R135). -/
theorem afterInternals_positionSteps {s : State} (h : Loading s) :
    afterInternals positionSteps s = afterInternal (positionLatched .dwell s) .dwellDone := by
  rw [positionSteps, afterInternals_append, afterInternals_stepsToLatch h, afterInternals_cons,
    afterInternal_muxSent rfl rfl]
  rfl

theorem afterInternals_positionSteps_last {s : State} (h : Loading s) (hp : s.muxPos = 3#2) :
    afterInternals positionSteps s = positionLatched .idle s := by
  rw [afterInternals_positionSteps h, afterInternal_dwellDone_last (s := positionLatched .dwell s) rfl hp]
  rfl

theorem afterInternals_positionSteps_next {s : State} (h : Loading s) (hp : s.muxPos ≠ 3#2) :
    afterInternals positionSteps s = (positionLatched .load s).withMuxPos (s.muxPos + 1#2) := by
  rw [afterInternals_positionSteps h, afterInternal_dwellDone_next (s := positionLatched .dwell s) rfl hp]
  rfl

/-! The positions of a RENDER. -/

/-- The frame of position `p` by the arguments latched in `s` (R133). -/
def frameAt (s : State) (p : BitVec 2) : Byte × Byte :=
  positionFrame s.cfg s.muxDig s.muxUd s.muxDpi p

/-- The frames of the first `p` positions by the arguments latched in `s`. -/
def framesBefore (s : State) (p : Nat) : List (Byte × Byte) :=
  (List.range p).map fun q => frameAt s (BitVec.ofNat 2 q)

theorem framesBefore_succ (s : State) (p : Nat) :
    framesBefore s (p + 1) = framesBefore s p ++ [frameAt s (BitVec.ofNat 2 p)] := by
  simp [framesBefore, List.range_succ]

theorem framesBefore_four (s : State) :
    framesBefore s 4 = (List.finRange 4).map fun p : Fin 4 => frameAt s (BitVec.ofNat 2 p) := by
  rw [framesBefore, ← List.map_coe_finRange_eq_range, List.map_map]
  rfl

/-- `u` is about to load position `p` of the RENDER that latched its arguments in `s`. -/
structure AtPosition (s : State) (p : Nat) (u : State) : Prop extends Loading u where
  muxPos : u.muxPos = BitVec.ofNat 2 p
  frameAt : frameAt u = frameAt s
  frames : u.frames = s.frames ++ framesBefore s p

/-- The frame latched at a position. -/
theorem frames_positionLatched {s u : State} {p : Nat} (h : AtPosition s p u) (m : MuxPhase) :
    (positionLatched m u).frames = s.frames ++ framesBefore s (p + 1) := by
  have hcurrent : currentFrame u = Proofs.frameAt s (BitVec.ofNat 2 p) := by
    rw [← h.frameAt, ← h.muxPos]
    rfl
  rw [framesBefore_succ, ← List.append_assoc, ← h.frames, ← hcurrent]
  rfl

theorem atPosition_succ {s u : State} {p : Nat} (h : AtPosition s p u) (hp : p < 3) :
    AtPosition s (p + 1) (afterInternals positionSteps u) := by
  have hnotLast : u.muxPos ≠ 3#2 := by
    rw [h.muxPos]
    bv_omega
  rw [afterInternals_positionSteps_next h.toLoading hnotLast]
  have hnext : u.muxPos + 1#2 = BitVec.ofNat 2 (p + 1) := by rw [h.muxPos, BitVec.ofNat_add]
  exact ⟨⟨rfl, rfl, rfl⟩, hnext, h.frameAt, frames_positionLatched h .load⟩

theorem atPosition_afterInternals {s : State} {p : Nat} (h : AtPosition s 0 s) (hp : p ≤ 3) :
    AtPosition s p (afterInternals (stepsToPosition p) s) := by
  induction p with
  | zero => exact h
  | succ p ih =>
    rw [stepsToPosition_succ, afterInternals_append]
    exact atPosition_succ (ih (by omega)) hp

/-- A RENDER run to its end: the state is that after the latch of position 3, with the multiplexer idle. -/
theorem afterInternals_render {s : State} (h : AtPosition s 0 s) :
    busy (afterInternals (stepsToPosition 4) s) = false ∧
      (afterInternals (stepsToPosition 4) s).frames = s.frames ++ framesBefore s 4 := by
  have hlast : AtPosition s 3 (afterInternals (stepsToPosition 3) s) := atPosition_afterInternals h le_rfl
  rw [stepsToPosition_succ, afterInternals_append, afterInternals_positionSteps_last hlast.toLoading hlast.muxPos]
  exact ⟨rfl, frames_positionLatched hlast .idle⟩

/-! Within a position. -/

/-- Only DWELL_DONE ends the multiplexer's sequence (R135). -/
theorem muxPhase_ne_idle_of_effect {k : Internal} {s t : State} (h : Effect (.internal k) s t) (hk : k ≠ .dwellDone)
    (hs : s.muxPhase ≠ .idle) : t.muxPhase ≠ .idle := by
  cases h with
  | dwellLast => exact absurd rfl hk
  | dwellNext => exact absurd rfl hk
  | _ => simp [hs]

/-- What every step but `j` keeps, a run without `j` keeps. -/
theorem afterInternals_keeps {P : State → Prop} {j : Internal} (hkeep : ∀ k s, k ≠ j → P s → P (afterInternal s k))
    {s : State} {ks : List Internal} (hs : P s) (hks : j ∉ ks) : P (afterInternals ks s) := by
  induction ks generalizing s with
  | nil => exact hs
  | cons k ks ih =>
    obtain ⟨hk, hks⟩ := not_or.mp (mt List.mem_cons.mpr hks)
    exact ih (hkeep k s (Ne.symm hk) hs) hks

theorem muxPhase_ne_idle_afterInternals {s : State} {ks : List Internal} (hs : s.muxPhase ≠ .idle)
    (hks : .dwellDone ∉ ks) : (afterInternals ks s).muxPhase ≠ .idle :=
  afterInternals_keeps (P := fun t => t.muxPhase ≠ .idle)
    (fun k u hk => muxPhase_ne_idle_of_effect (effect_afterInternal k u) hk) hs hks

theorem frames_afterInternals {s : State} {ks : List Internal} (hks : .srLatchHi ∉ ks) :
    (afterInternals ks s).frames = s.frames := by
  refine afterInternals_keeps (P := fun t => t.frames = s.frames) (fun k u hk hu => ?_) rfl hks
  obtain ⟨_, _, hframes⟩ := outputs_of_effect (effect_afterInternal k u) hk
  exact hframes.trans hu

theorem notMem_take_of_le {k : Internal} {ks : List Internal} {m n : Nat} (h : k ∉ ks.take n) (hmn : m ≤ n) :
    k ∉ ks.take m :=
  fun hm => h (List.take_subset_take_left ks hmn hm)

/-- DWELL_DONE is the last step of a position. -/
theorem dwellDone_notMem_take {r : Nat} (hr : r < 53) : Internal.dwellDone ∉ positionSteps.take r :=
  notMem_take_of_le (n := 52) (by decide) (Nat.le_of_lt_succ hr)

/-- SR_LATCH_HI is the 51st step of a position (R139). -/
theorem srLatchHi_notMem_take_positionSteps {r : Nat} (hr : r < 51) : Internal.srLatchHi ∉ positionSteps.take r :=
  notMem_take_of_le (n := 50) (by decide) (Nat.le_of_lt_succ hr)

/-- A position has latched its frame once 51 of its steps are taken (R139). -/
theorem length_frames_take_positionSteps {s : State} (h : Loading s) (r : Nat) :
    (afterInternals (positionSteps.take r) s).frames.length = s.frames.length + (if 51 ≤ r then 1 else 0) := by
  have hlength : stepsToLatch.length = 51 := by decide
  split
  next hr =>
    have hrest : Internal.srLatchHi ∉ [Internal.muxSent, .dwellDone].take (r - 51) :=
      fun hmem => absurd (List.mem_of_mem_take hmem) (by decide)
    rw [positionSteps, List.take_append, hlength, List.take_of_length_le (hlength.trans_le hr), afterInternals_append,
      frames_afterInternals hrest, afterInternals_stepsToLatch h]
    simp [positionLatched, transferred]
  next hr => rw [frames_afterInternals (srLatchHi_notMem_take_positionSteps (Nat.lt_of_not_le hr)), Nat.add_zero]

/-- A RENDER cut within position `p` (R130, R139). -/
theorem afterInternals_take_render {s : State} (h : AtPosition s 0 s) {p r : Nat} (hp : p < 4) (hr : r < 53) :
    busy (afterInternals ((stepsToPosition 4).take (53 * p + r)) s) = true ∧
      (afterInternals ((stepsToPosition 4).take (53 * p + r)) s).frames.length =
        s.frames.length + p + (if 51 ≤ r then 1 else 0) := by
  have hload : AtPosition s p (afterInternals (stepsToPosition p) s) := atPosition_afterInternals h (by omega)
  have hmux : (afterInternals (stepsToPosition p) s).muxPhase ≠ .idle := hload.muxPhase ▸ nofun
  rw [take_stepsToPosition hp hr.le, afterInternals_append]
  constructor
  · simp [busy, muxPhase_ne_idle_afterInternals hmux (dwellDone_notMem_take hr)]
  · rw [length_frames_take_positionSteps hload.toLoading, hload.frames]
    simp [framesBefore]

/-! RENDER's run from its acceptance. -/

/-- The turn that presents an accepted RENDER latches its arguments. -/
theorem runScript_render {s : State} {value : Half} (hr : Running s) (hb : busy s = false)
    (h : 0 ≤ value.toInt ∨ s.cfg.negPolicy = .clamp0) (ud : BitVec 1) (dpi : BitVec 2) (l : List Turn) :
    runScript (.host (encode (.render ud dpi value)) :: l) s =
      runScript l (s.withRender (decimalDigits value.toInt.toNat) ud dpi) := by
  have hturn : takeTurn (.host (encode (.render ud dpi value))) (s.withSchedule l s.draws) =
      .next ((s.withSchedule l s.draws).withRender (decimalDigits value.toInt.toNat) ud dpi) :=
    (presentWord_of_decode (decodeOfEncode (.render ud dpi value)) _).trans
      (exec_render_of_accepted (s := s.withSchedule l s.draws) hb h ud dpi)
  rw [runScript_cons hr hturn]
  rfl

theorem atPosition_withRender {s : State} (hs : s.srPhase = .idle) (hclk : s.clk = false) (dig : Vector (Fin 10) 4)
    (ud : BitVec 1) (dpi : BitVec 2) : AtPosition (s.withRender dig ud dpi) 0 (s.withRender dig ud dpi) :=
  ⟨⟨rfl, hs, hclk⟩, rfl, rfl, (List.append_nil _).symm⟩

/-- The frame of a position in the terms of R131 and R133. -/
theorem frameAt_withRender (s : State) (u : Nat) (ud : BitVec 1) (dpi : BitVec 2) (p : Fin 4) :
    frameAt (s.withRender (decimalDigits u) ud dpi) (BitVec.ofNat 2 p) =
      (segEncode s.cfg (Fin.ofNat 10 (u / 10 ^ (3 - p.val))) (if ud = 1#1 ∧ dpi.toNat = p.val then 1#1 else 0#1),
        s.cfg.enableMask.get p) := by
  have hfin : (BitVec.ofNat 2 p).toFin = p := Fin.ext (Nat.mod_eq_of_lt p.isLt)
  have hdpi : dpi = BitVec.ofNat 2 p ↔ dpi.toNat = p.val := by bv_omega
  simp only [frameAt, positionFrame, decimalPoint, enableOf, State.withRender_cfg, State.withRender_muxDig,
    State.withRender_muxUd, State.withRender_muxDpi, hfin, hdpi, decimalDigits_get]

theorem running_afterInternals {s : State} (h : Running s) (ks : List Internal) : Running (afterInternals ks s) := by
  induction ks generalizing s with
  | nil => exact h
  | cons k ks ih => exact ih (running_afterInternal h k)

/-- An interleaved run of internal steps ends without a fault. -/
theorem fault_of_view {s t : State} {ks : List Internal} (hr : Running s)
    (hview : foreground t = afterInternals ks (foreground s)) : t.fault = none := by
  have hrun : Running (foreground t) := hview ▸ running_afterInternals (s := foreground s) hr ks
  exact hrun.1

/-- The view of an interleaved RENDER is that of its four positions in order (R137, 20_memory R61). -/
theorem runScript_interleaved_render {s : State} {l : List Turn} (hr : Running s) (h : AtPosition s 0 s)
    (hl : Interleaves l renderTurns) :
    ∃ t, runScript l s = .next t ∧ t.fault = none ∧ busy t = false ∧ t.frames = s.frames ++ framesBefore s 4 := by
  rw [renderTurns_eq] at hl
  obtain ⟨t, ht, hview⟩ := runScript_interleaves hr hl
  have hstart : AtPosition (foreground s) 0 (foreground s) :=
    ⟨⟨h.muxPhase, h.srPhase, h.clk⟩, h.muxPos, rfl, h.frames⟩
  obtain ⟨hbusy, hframes⟩ := afterInternals_render hstart
  rw [← hview] at hbusy hframes
  exact ⟨t, ht, fault_of_view hr hview, hbusy, hframes⟩

/-- Settles O21: the accepted RENDER starts at position 0, and the frames of its four positions are those of its
value. -/
theorem renderShowsFourFrames : Obligations.RenderShowsFourFrames := by
  unfold Obligations.RenderShowsFourFrames
  intro s ud dpi value l hr hb hclk h hl
  obtain ⟨_, hs⟩ := (busy_eq_false s).mp hb
  rw [runScript_render hr hb h]
  simp only [← frameAt_withRender, ← framesBefore_four]
  exact runScript_interleaved_render hr (atPosition_withRender hs hclk _ ud dpi) hl

theorem busy_withSchedule (s : State) (l : List Turn) (n : Nat) : busy (s.withSchedule l n) = busy s := rfl

/-- The run of a RENDER's first `n` turns after its acceptance. -/
theorem runScript_take_renderTurns {s : State} (hr : Running s) (n : Nat) :
    runScript (renderTurns.take n) s =
      .next ((afterInternals ((stepsToPosition 4).take n) s).withSchedule [] s.draws) := by
  rw [renderTurns_eq, ← List.map_take]
  exact runScript_internals hr _

/-- Settles O22: a RENDER cut after `n` turns stands within position `n / 53`, where DWELL_DONE is still to come, or
after its last dwell. -/
theorem renderBusyUntilLastDwell : Obligations.RenderBusyUntilLastDwell := by
  unfold Obligations.RenderBusyUntilLastDwell
  intro s ud dpi value n hr hb hclk h hn
  obtain ⟨_, hs⟩ := (busy_eq_false s).mp hb
  have hstart := atPosition_withRender hs hclk (decimalDigits value.toInt.toNat) ud dpi
  rw [runScript_render hr hb h, runScript_take_renderTurns (s := s.withRender _ ud dpi) hr]
  refine ⟨_, rfl, ?_⟩
  rw [busy_withSchedule, State.withSchedule_frames]
  obtain hlt | rfl := hn.lt_or_eq
  · obtain ⟨hbusy, hframes⟩ :=
      afterInternals_take_render hstart (by omega : n / 53 < 4) (Nat.mod_lt n (by decide : 53 > 0))
    rw [Nat.div_add_mod] at hbusy hframes
    exact ⟨hbusy.trans (decide_eq_true hlt).symm, hframes⟩
  · obtain ⟨hbusy, hframes⟩ := afterInternals_render hstart
    have htake : (stepsToPosition 4).take 212 = stepsToPosition 4 :=
      List.take_of_length_le (length_stepsToPosition 4).le
    rw [htake, hbusy, hframes]
    simp [framesBefore]

end Sys2Proof.Proofs
end

section
/-! PROOFS. The clock timer (43_clock_timer): its three commands while not BUSY (R152, R154, R156) and their frame, the
time word and what its RENDER shows (R157, R158), and the runs of PERIOD, TICK and CLEAR (R150, R151, R155). -/

namespace Sys2Proof.Proofs

open Sys2Proof Sys2Proof.Machine

/-! PERIOD and CLEAR. -/

/-- Settles O25: PERIOD's meaning is the one write of TICK_PENDING. -/
theorem periodSetsPending : Obligations.PeriodSetsPending := by
  unfold Obligations.PeriodSetsPending
  exact fun _ => rfl

/-- CLEAR while not BUSY (R154). -/
theorem exec_clear_of_idle {s : State} (hb : busy s = false) : exec .clear s = .next (s.withTime 0 0) :=
  whenIdle_of_idle _ _ _ hb

/-- Settles O26: while not BUSY CLEAR is its body, the one write of the time. -/
theorem clearZeroesTime : Obligations.ClearZeroesTime := by
  unfold Obligations.ClearZeroesTime
  exact fun _ => exec_clear_of_idle

/-- Settles O45: PERIOD writes TICK_PENDING, CLEAR faults or writes the time, and each of the three updates leaves the
fields it does not name. -/
theorem frameOfPeriodAndClear : Obligations.FrameOfPeriodAndClear := by
  unfold Obligations.FrameOfPeriodAndClear
  rintro i s t (rfl | rfl) h
  · obtain rfl := execPeriod_next h
    simp
  · rcases execClear_next h with ⟨_, rfl⟩ | ⟨_, rfl⟩ <;> simp

/-! READT and the time word. -/

/-- The time word has MIN as its first byte and SEC as its second (R156, 20_memory R56). -/
theorem timeWord_eq_frameWord (m : Fin 100) (c : Fin 60) :
    timeWord m c = frameWord (BitVec.ofNat 8 m) (BitVec.ofNat 8 c) := by
  rw [timeWord, frameWord, BitVec.setWidth_ofNat_of_le_of_lt (by decide) (by omega),
    BitVec.setWidth_ofNat_of_le_of_lt (by decide) (by omega)]

theorem timeWord_eq_ofNat (m : Fin 100) (c : Fin 60) : timeWord m c = BitVec.ofNat 16 (256 * m.val + c.val) := by
  apply BitVec.eq_of_toNat_eq
  rw [timeWord_eq_frameWord, frameWord_toNat, BitVec.toNat_ofNat, BitVec.toNat_ofNat, BitVec.toNat_ofNat]
  omega

theorem highByte_timeWord_toNat (m : Fin 100) (c : Fin 60) : (highByte (timeWord m c)).toNat = m.val := by
  rw [timeWord_eq_frameWord, highByte_frameWord, BitVec.toNat_ofNat]
  omega

theorem lowByte_timeWord_toNat (m : Fin 100) (c : Fin 60) : (lowByte (timeWord m c)).toNat = c.val := by
  rw [timeWord_eq_frameWord, lowByte_frameWord, BitVec.toNat_ofNat]
  omega

/-- READT while not BUSY (R156). -/
theorem exec_readt_of_idle {s : State} (hb : busy s = false) :
    exec .readt s = .next (s.withRes (timeWord s.min s.sec)) :=
  whenIdle_of_idle _ _ _ hb

/-- Settles O27: while not BUSY READT is its body, and the time word is the sum of its two bytes. -/
theorem readtTakesSnapshot : Obligations.ReadtTakesSnapshot := by
  unfold Obligations.ReadtTakesSnapshot
  intro s hb
  rw [exec_readt_of_idle hb, timeWord_eq_ofNat]
  rfl

/-- Settles O28: the bytes of the time word are MIN and SEC, which are below 100 and 60. -/
theorem readtNeverTorn : Obligations.ReadtNeverTorn := by
  unfold Obligations.ReadtNeverTorn
  intro s hb
  have hmin := highByte_timeWord_toNat s.min s.sec
  have hsec := lowByte_timeWord_toNat s.min s.sec
  exact ⟨_, exec_readt_of_idle hb, hmin, hsec, hmin.trans_lt s.min.isLt, hsec.trans_lt s.sec.isLt⟩

/-! The clock's display (R158). -/

/-- The host's number for the time word (30_encoding R82). -/
theorem showTimeValue_timeWord (m : Fin 100) (c : Fin 60) :
    showTimeValue (timeWord m c) = 100 * m.val + c.val := by
  rw [showTimeValue, highByte_timeWord_toNat, lowByte_timeWord_toNat, Nat.mul_comm]

/-- A number below 2^15 is not negative as RENDER's operand (30_encoding R75). -/
theorem toInt_ofNat_of_lt {n : Nat} (h : n < 2 ^ 15) : (BitVec.ofNat 16 n : Half).toInt = n := by
  rw [BitVec.toInt_ofNat', Int.bmod_eq_of_le (by omega) (by omega)]

/-- The decimal digits of the clock's number are those of the minutes and of the seconds (R158). -/
theorem decimalDigits_clock (m : Fin 100) (c : Fin 60) :
    ((decimalDigits (100 * m.val + c.val)).get 0).val = m.val / 10 ∧
    ((decimalDigits (100 * m.val + c.val)).get 1).val = m.val % 10 ∧
    ((decimalDigits (100 * m.val + c.val)).get 2).val = c.val / 10 ∧
    ((decimalDigits (100 * m.val + c.val)).get 3).val = c.val % 10 := by
  change (100 * m.val + c.val) / 1000 % 10 = m.val / 10 ∧ (100 * m.val + c.val) / 100 % 10 = m.val % 10 ∧
    (100 * m.val + c.val) / 10 % 10 = c.val / 10 ∧ (100 * m.val + c.val) % 10 = c.val % 10
  omega

/-- SHOWTIME's RENDER while not BUSY: the clock's number is below 2^15, so every policy accepts it (R158). -/
theorem exec_showTimeRender_timeWord {s : State} (hb : busy s = false) (m : Fin 100) (c : Fin 60) :
    exec (showTimeRender (timeWord m c)) s = .next (s.withRender (decimalDigits (100 * m.val + c.val)) 0#1 0#2) := by
  have hint := toInt_ofNat_of_lt (n := 100 * m.val + c.val) (by omega)
  rw [showTimeRender, showTimeValue_timeWord, exec_render_of_accepted hb (.inl (by omega)), hint, Int.toNat_natCast]

/-- Settles O29: RES is the time word, whose number is at most 99 times 100 and 59 and has the digits MMSS. -/
theorem clockDisplayDigits : Obligations.ClockDisplayDigits := by
  unfold Obligations.ClockDisplayDigits
  intro s m c hb hres
  have hword : s.res = timeWord m c := by
    rw [timeWord_eq_ofNat, ← hres, BitVec.ofNat_toNat, BitVec.setWidth_eq]
  rw [hword, showTimeValue_timeWord]
  exact ⟨rfl, by omega, _, exec_showTimeRender_timeWord hb m c, rfl, decimalDigits_clock m c⟩

/-! TICK (R150). -/

theorem runInternal_tick_of_pending {s : State} (h : s.tickPending = true) :
    runInternal .tick s = some (serviceTick s) :=
  if_pos h

theorem runInternal_tick_of_not_pending {s : State} (h : s.tickPending = false) : runInternal .tick s = none :=
  if_neg (by simp [h])

theorem afterInternal_tick {s : State} (h : s.tickPending = true) : afterInternal s .tick = serviceTick s := by
  rw [afterInternal, runInternal_tick_of_pending h, Option.getD_some]

theorem nextTime_of_carry (m : Fin 100) {c : Fin 60} (h : c.val = 59) :
    nextTime m c = (Fin.ofNat 100 (m.val + 1), 0) :=
  if_pos (by omega)

theorem nextTime_of_no_carry (m : Fin 100) {c : Fin 60} (h : c.val ≠ 59) :
    nextTime m c = (m, ⟨c.val + 1, by omega⟩) := by
  rw [nextTime, if_neg (by omega)]
  exact congrArg (m, ·) (Fin.ext (Nat.mod_eq_of_lt (by omega)))

/-- Settles O30: the pending mark enables TICK, and the next time carries at SEC 59 alone. -/
theorem tickAdvancesTime : Obligations.TickAdvancesTime := by
  unfold Obligations.TickAdvancesTime
  intro s rest hr hs
  refine ⟨runInternal_tick_of_not_pending, fun hp => ?_⟩
  refine ⟨(nextTime s.min s.sec).1, (nextTime s.min s.sec).2, ?_, fun hcarry => ?_, fun hcarry => ?_⟩
  · rw [step_scripted s _ rest hr hs, takeTurn_internal,
      afterInternal_tick (s := s.withSchedule rest s.draws) hp]
    rfl
  · rw [nextTime_of_carry s.min hcarry]
    exact ⟨rfl, rfl⟩
  · rw [nextTime_of_no_carry s.min hcarry]
    exact ⟨rfl, rfl⟩

/-! The time as a count of seconds (R151). -/

theorem totalSeconds_lt (s : State) : totalSeconds s < 6000 := by
  rw [totalSeconds]
  omega

theorem min_eq_totalSeconds_div (s : State) : s.min.val = totalSeconds s / 60 := by
  rw [totalSeconds]
  omega

theorem sec_eq_totalSeconds_mod (s : State) : s.sec.val = totalSeconds s % 60 := by
  rw [totalSeconds]
  omega

/-- The next time counts one second more, also where both fields wrap (R150). -/
theorem nextTime_totalSeconds (m : Fin 100) (c : Fin 60) :
    60 * (nextTime m c).1.val + (nextTime m c).2.val = (60 * m.val + c.val + 1) % 6000 := by
  by_cases h : c.val = 59
  · rw [nextTime_of_carry m h]
    change 60 * ((m.val + 1) % 100) + 0 = (60 * m.val + c.val + 1) % 6000
    omega
  · rw [nextTime_of_no_carry m h]
    change 60 * m.val + (c.val + 1) = (60 * m.val + c.val + 1) % 6000
    omega

/-- A tick counts one second (R151). -/
theorem totalSeconds_serviceTick (s : State) : totalSeconds (serviceTick s) = (totalSeconds s + 1) % 6000 :=
  nextTime_totalSeconds s.min s.sec

/-! Runs of the clock's turns. -/

/-- PERIOD at the head of a run (R152). -/
theorem runScript_period {s : State} (hr : Running s) (l : List Turn) :
    runScript (.timerPort periodWord :: l) s = runScript l (s.withTickPending true) := by
  have hturn : takeTurn (.timerPort periodWord) (s.withSchedule l s.draws) =
      .next ((s.withSchedule l s.draws).withTickPending true) :=
    presentWord_of_decode (decodeOfEncode .period) _
  rw [runScript_cons hr hturn]
  rfl

/-- A pending TICK at the head of a run (R150). -/
theorem runScript_tick {s : State} (hr : Running s) (hp : s.tickPending = true) (l : List Turn) :
    runScript (.internal .tick :: l) s = runScript l (serviceTick s) := by
  rw [runScript_cons hr (takeTurn_internal .tick _), afterInternal_tick (s := s.withSchedule l s.draws) hp]
  rfl

/-- CLEAR at the head of a run, while not BUSY (R154). -/
theorem runScript_clear {s : State} (hr : Running s) (hb : busy s = false) (l : List Turn) :
    runScript (.host (encode .clear) :: l) s = runScript l (s.withTime 0 0) := by
  have hturn : takeTurn (.host (encode .clear)) (s.withSchedule l s.draws) =
      .next ((s.withSchedule l s.draws).withTime 0 0) :=
    (presentWord_of_decode (decodeOfEncode .clear) _).trans (exec_clear_of_idle (s := s.withSchedule l s.draws) hb)
  rw [runScript_cons hr hturn]
  rfl

/-- A period and its tick run to one serviced tick, whether or not a tick was pending. -/
theorem runScript_periodAndTick {s : State} (hr : Running s) (l : List Turn) :
    runScript (periodAndTick ++ l) s = runScript l (serviceTick s) :=
  (runScript_period hr _).trans (runScript_tick (s := s.withTickPending true) hr rfl l)

/-- n periods, each with its tick, count n seconds (R151). -/
theorem exists_runScript_periodsAndTicks (n : Nat) {s : State} (hr : Running s) :
    ∃ t, runScript (List.replicate n periodAndTick).flatten s = .next t ∧
      totalSeconds t = (totalSeconds s + n) % 6000 := by
  induction n generalizing s with
  | zero => exact ⟨_, rfl, (Nat.mod_eq_of_lt (totalSeconds_lt s)).symm⟩
  | succ n ih =>
    obtain ⟨t, ht, htotal⟩ := ih (s := serviceTick s) hr
    refine ⟨t, ?_, ?_⟩
    · rw [List.replicate_succ, List.flatten_cons, runScript_periodAndTick hr, ht]
    · rw [htotal, totalSeconds_serviceTick]
      omega

/-- Settles O31: the count determines MIN and SEC. -/
theorem ticksCountModulo6000 : Obligations.TicksCountModulo6000 := by
  unfold Obligations.TicksCountModulo6000
  intro n s hr
  obtain ⟨t, ht, htotal⟩ := exists_runScript_periodsAndTicks n hr
  exact ⟨t, ht, htotal, htotal ▸ min_eq_totalSeconds_div t, htotal ▸ sec_eq_totalSeconds_mod t⟩

/-- Periods at the head of a run: those after the first find the tick pending already (R152). -/
theorem runScript_periods {s : State} (hr : Running s) (n : Nat) (l : List Turn) :
    runScript (List.replicate (n + 1) (.timerPort periodWord) ++ l) s = runScript l (s.withTickPending true) := by
  induction n generalizing s with
  | zero => exact runScript_period hr l
  | succ n ih =>
    rw [List.replicate_succ, List.cons_append, runScript_period hr, ih (s := s.withTickPending true) hr]
    rfl

/-- Settles O32: the periods leave one tick pending, and the one tick takes it. -/
theorem periodsCoalesce : Obligations.PeriodsCoalesce := by
  unfold Obligations.PeriodsCoalesce
  intro n s hr
  rw [runScript_periods hr, runScript_tick (s := s.withTickPending true) hr rfl]
  exact ⟨_, rfl, totalSeconds_serviceTick (s.withTickPending true), rfl⟩

/-- Settles O33: CLEAR keeps the pending tick, which then counts from 0; after a TICK it takes the time back to 0. -/
theorem clearAndTickInEitherOrder : Obligations.ClearAndTickInEitherOrder := by
  unfold Obligations.ClearAndTickInEitherOrder
  intro s hr hb hp
  constructor
  · rw [runScript_tick hr hp, runScript_clear (s := serviceTick s) hr hb]
    exact ⟨_, rfl, rfl, rfl, rfl⟩
  · rw [runScript_clear hr hb, runScript_tick (s := s.withTime 0 0) hr hp]
    exact ⟨_, rfl, rfl, rfl, rfl⟩

end Sys2Proof.Proofs
end

section
/-! PROOFS. The faults (60_exceptions): the checks of one word in their order (R172, R176), what a faulting step writes
(R170, R173), and what the interrupt reads and leaves (R174, R175). -/

namespace Sys2Proof.Proofs

open Sys2Proof Sys2Proof.Machine

/-! One word on a port. -/

/-- Every command of the command port begins with the BUSY check (R172). -/
theorem exec_of_busy {i : Instr} {s : State} (hp : i.port = .command) (hb : busy s = true) :
    exec i s = .next (s.withFault (.busyOverlap (encode i))) := by
  cases i with
  | period => cases hp
  | enc | commit | render | clear | readt => exact whenIdle_of_busy _ s _ hb

/-- PERIOD is the one command of the timer port (30_encoding R72). -/
theorem eq_period_of_port {i : Instr} (hp : i.port = .timer) : i = .period := by
  cases i with
  | period => rfl
  | enc | commit | render | clear | readt => cases hp

/-- A word that arrives while BUSY is recorded as presented, since it is the encoding of its command (log entry 18). -/
theorem step_host_of_busy {s : State} {w : Word} {i : Instr} {rest : List Turn} (hr : Running s)
    (hb : busy s = true) (hs : s.script = .host w :: rest) (hd : decode .command w = .ok i) :
    step s = .next { s with script := rest, fault := some (.busyOverlap w) } := by
  rw [stepRunsDecodedCommand s .command w i rest hr hd hs, ← encode_of_decode hd]
  exact exec_of_busy (s := { s with script := rest }) (decode_ok_port hd) hb

/-- A word that does not decode faults by the decoder's reason, whatever BUSY is (30_encoding R78). -/
theorem step_host_of_rejected {s : State} {w : Word} {e : DecodeFault} {rest : List Turn} (hr : Running s)
    (hs : s.script = .host w :: rest) (hd : decode .command w = .error e) :
    step s = .next { s with script := rest, fault := some (faultOfDecode e) } := by
  rw [step_scripted s _ rest hr hs, takeTurn, presentWord, hd]
  rfl

/-- Settles O35: a word of the command port runs into the BUSY check, and the timer port's one command has none. -/
theorem wordWhileBusyFaults : Obligations.WordWhileBusyFaults := by
  unfold Obligations.WordWhileBusyFaults
  intro s w i rest hr hb
  refine ⟨step_host_of_busy hr hb, fun hs hd => ?_⟩
  obtain rfl := eq_period_of_port (decode_ok_port hd)
  exact stepRunsDecodedCommand s .timer w .period rest hr hd hs

/-- ILLEGAL_CMD on the command port: an OP with no row, or the word of the timer port's command (30_encoding R78). -/
theorem decode_command_illegal {w : Word} (h : w.toNat / 2 ^ 28 = 0 ∨ 7 ≤ w.toNat / 2 ^ 28 ∨ w = periodWord) :
    decode .command w = .error (.illegalCmd w) := by
  have hop : w.toNat / 2 ^ 28 < 1 ∨ 6 < w.toNat / 2 ^ 28 → decode .command w = .error (.illegalCmd w) :=
    fun h => by rw [decode, decodeWord_of_op_undefined h]
  rcases h with hzero | hseven | rfl
  · exact hop (.inl (by omega))
  · exact hop (.inr (by omega))
  · decide

/-- Settles O36: the decoder's refusals come before the command runs, the BUSY check before its body, and the body's
checks are those of ENC and RENDER. -/
theorem checksInOrder : Obligations.ChecksInOrder := by
  unfold Obligations.ChecksInOrder
  intro s w rest hr hs
  refine ⟨fun h => step_host_of_rejected hr hs (decode_command_illegal h), fun h => step_host_of_rejected hr hs h,
    fun i hd hb => step_host_of_busy hr hb hs hd, fun dp digit hd hb hdigit => ?_,
    fun ud dpi value hd hb hneg hpolicy => ?_⟩
  · rw [stepRunsDecodedCommand s .command w _ rest hr hd hs]
    exact encFaultsOnDigitRange { s with script := rest } dp digit hdigit hb
  · rw [stepRunsDecodedCommand s .command w _ rest hr hd hs]
    exact renderFaultsOnNegative { s with script := rest } ud dpi value hb hneg hpolicy

/-! The fault (R170, R173). -/

/-- Of the transitions only `faulted` writes FAULT, and it writes nothing else. -/
theorem withFault_of_fault_changed {turn : Turn} {s t : State} (h : Effect turn s t) (hne : t.fault ≠ s.fault) :
    ∃ r, t = s.withFault r := by
  cases h with
  | faulted _ _ r => exact ⟨r, rfl⟩
  | _ => simp at hne

/-- Settles O37: a step is taken with FAULT clear, so one that leaves it set is the `faulted` transition. -/
theorem faultsPreciseAndFinal : Obligations.FaultsPreciseAndFinal := by
  unfold Obligations.FaultsPreciseAndFinal
  constructor
  · intro s t h hfault
    obtain ⟨⟨hnone, _⟩, l, n, he⟩ := step_effect h
    obtain ⟨r, rfl⟩ := withFault_of_fault_changed he (hnone.symm ▸ hfault)
    exact ⟨r, l, n, rfl⟩
  · intro s t hfault h
    obtain ⟨⟨hnone, _⟩, _⟩ := step_effect h
    exact hfault hnone

/-! The interrupt (R174, R175). -/

/-- A scripted clock turn answers a next state with the same foreground. -/
theorem step_clock {s : State} {turn : Turn} {rest : List Turn} (hr : Running s) (hs : s.script = turn :: rest)
    (hc : turn.isClock = true) : ∃ t, step s = .next t ∧ foreground t = foreground s := by
  rw [step_scripted s turn rest hr hs]
  exact takeTurn_clock hc (s.withSchedule rest s.draws)

/-- Settles O38: both turns are clock turns, and TICK is enabled by TICK_PENDING and computes from MIN and SEC. -/
theorem interruptLeavesForeground : Obligations.InterruptLeavesForeground := by
  unfold Obligations.InterruptLeavesForeground
  constructor
  · rintro s rest hr (⟨_, hs⟩ | hs)
    · exact step_clock hr hs rfl
    · exact step_clock hr hs rfl
  · intro s u hsec hmin hpending
    cases hp : u.tickPending with
    | false => rw [runInternal_tick_of_not_pending hp, runInternal_tick_of_not_pending (hpending.trans hp)]
    | true =>
      rw [runInternal_tick_of_pending hp, runInternal_tick_of_pending (hpending.trans hp)]
      simp [hsec, hmin]

end Sys2Proof.Proofs
end

section
/-! PROOFS. Reset and the clock line (70_reset_and_hazards R200, R205): the values of power-on, and CLK read off the
transitions of `Effect`. -/

namespace Sys2Proof.Proofs

open Sys2Proof Sys2Proof.Machine

/-- Settles O50: `powerOn` writes each value out, and the default configuration passes its checks. -/
theorem resetValues : Obligations.ResetValues := by
  unfold Obligations.ResetValues
  exact ⟨fun _ => ⟨rfl, rfl, rfl, rfl, rfl, rfl, rfl, rfl, rfl, rfl, rfl, rfl, rfl, rfl, rfl, nofun⟩, rfl, by decide⟩

/-- A transition other than the serializer's leaves CLK and neither enters phase CLK_LO nor leaves it; SR_CLK_HI sets both
sides of the clause, and the others clear them (R205). -/
theorem clk_phase_of_effect {turn : Turn} {s t : State} (h : Effect turn s t)
    (hs : s.clk = true ↔ s.srPhase = .clkLo) : t.clk = true ↔ t.srPhase = .clkLo := by
  cases h with
  | commit w s seg en hw hb =>
    obtain ⟨_, hidle⟩ := (busy_eq_false s).mp hb
    simpa [hidle] using hs
  | muxLoad s hm hidle => simpa [hidle] using hs
  | srLatchLo s hp | srData s hp | srLatchHi s hp => simpa [hp] using hs
  | srClkHi => simp
  | srClkLo s hp =>
    simp only [State.withSrPhase_clk, State.withSrCnt_clk, driveClk_clk, State.withSrPhase_srPhase]
    split <;> decide
  | _ => exact hs

/-- The writers of CLK (10_state R30, 41_shift_register_bus R114, R115). -/
theorem srClk_of_clk_changed {turn : Turn} {s t : State} (h : Effect turn s t) (hne : t.clk ≠ s.clk) :
    turn = .internal .srClkHi ∨ turn = .internal .srClkLo := by
  cases h with
  | srClkHi => exact .inl rfl
  | srClkLo => exact .inr rfl
  | _ => simp at hne

/-- An enabled SR_CLK_HI finds CLK low, so its drive is a rising edge (41_shift_register_bus R114, R117). -/
theorem srClkHi_rising_edge {s t : State} (hs : s.clk = true ↔ s.srPhase = .clkLo)
    (h : runInternal .srClkHi s = some t) :
    s.clk = false ∧ t.clk = true ∧ t.devChain = shiftIn s.devChain s.data := by
  obtain ⟨hp, rfl⟩ := stepSrClkHi_some h
  have hlow : s.clk = false := by simpa [hp] using hs
  simp [hlow]

/-- Settles O53: each transition keeps the clause, two of them write CLK, and a rising edge shifts DATA in. -/
theorem clockLineFollowsPhase : Obligations.ClockLineFollowsPhase := by
  unfold Obligations.ClockLineFollowsPhase
  refine ⟨fun _ => ⟨rfl, rfl⟩, fun s t hs h => ?_, fun s t h hne => ?_, fun s t hs h => ?_⟩
  · obtain ⟨_, l, n, he⟩ := step_effect h
    exact clk_phase_of_effect he hs
  · obtain ⟨_, l, n, he⟩ := step_effect h
    exact srClk_of_clk_changed he hne
  · rw [← shiftIn_eq_ofNat]
    exact srClkHi_rising_edge hs h

end Sys2Proof.Proofs
end

section
/-! PROOFS. The invariant of the block's state (70_reset_and_hazards R205): power-on meets it, and each transition of
`Effect` keeps it. -/

namespace Sys2Proof.Proofs

open Sys2Proof Sys2Proof.Machine

/-! The bits in the chain (41_shift_register_bus R117). -/

/-- A transfer that has sent nothing asks nothing of the chain. -/
theorem chain_bits_of_none_sent {s : State} (h : bitsSent s = 0) :
    s.devChain.toNat % 2 ^ bitsSent s = s.srFrame.toNat / 2 ^ (16 - bitsSent s) := by
  rw [h, pow_zero, Nat.mod_one, Nat.div_eq_of_lt s.srFrame.isLt]

/-- A shift lengthens the part of the frame in the chain by the frame's next bit. -/
theorem shiftIn_chain_bits {c f : Half} {k : Nat} (hk : k < 16) (h : c.toNat % 2 ^ k = f.toNat / 2 ^ (16 - k)) :
    (shiftIn c (f.getLsbD (15 - k))).toNat % 2 ^ (k + 1) = f.toNat / 2 ^ (16 - (k + 1)) := by
  have hexp : 16 - k = 15 - k + 1 := by omega
  rw [hexp, Nat.pow_succ, ← Nat.div_div_eq_div_mul] at h
  have hdvd : 2 ^ (k + 1) ∣ 2 ^ 16 := Nat.pow_dvd_pow 2 hk
  have hbit : (f.getLsbD (15 - k)).toNat = f.toNat / 2 ^ (15 - k) % 2 := Nat.toNat_testBit _ _
  calc (shiftIn c (f.getLsbD (15 - k))).toNat % 2 ^ (k + 1)
      = (f.toNat / 2 ^ (15 - k) % 2 + 2 * c.toNat) % (2 * 2 ^ k) := by
        rw [shiftIn_eq_ofNat, BitVec.toNat_ofNat, Nat.mod_mod_of_dvd _ hdvd, hbit, Nat.add_comm, Nat.pow_succ']
    _ = f.toNat / 2 ^ (15 - k) % 2 + 2 * (c.toNat % 2 ^ k) := by
        rw [Nat.mod_mul, Nat.add_mul_mod_self_left, Nat.mod_mod, Nat.add_mul_div_left _ _ two_pos,
          Nat.div_eq_of_lt (Nat.mod_lt _ two_pos), Nat.zero_add]
    _ = f.toNat / 2 ^ (15 - k) := by rw [h, Nat.mod_add_div]
    _ = f.toNat / 2 ^ (16 - (k + 1)) := by rw [Nat.sub_add_eq, Nat.sub_right_comm]

/-- Once all sixteen bits are sent the chain is the frame (R119 (d)). -/
theorem devChain_of_latchHi {s : State} (h : Inv s) (hp : s.srPhase = .latchHi) : s.devChain = s.srFrame := by
  have hsent : bitsSent s = 16 := by simp [bitsSent, hp]
  have hbits := h.chain_bits
  rw [hsent, Nat.sub_self, pow_zero, Nat.div_one, Nat.mod_eq_of_lt s.devChain.isLt] at hbits
  exact BitVec.eq_of_toNat_eq hbits

/-! Reset (R200). -/

theorem inv_powerOn (c : Config) : Inv (State.powerOn c) where
  clk_phase := by simp [State.powerOn]
  latch_low h := absurd rfl h
  cnt_start := nofun
  cnt_range := nofun
  cnt_end := nofun
  data_bit := nofun
  chain_bits := chain_bits_of_none_sent rfl
  outputs_last := nofun
  mux_alone _ := rfl
  send_frame := nofun
  shown_frame := nofun

/-- Settles O51: at power-on nothing is under way, and no frame has been latched. -/
theorem resetMeetsInvariant : Obligations.ResetMeetsInvariant := by
  unfold Obligations.ResetMeetsInvariant
  exact inv_powerOn

/-! Transitions of the commands, the clock and the multiplexer. The clauses of `Inv` that a proof below does not list are
those whose fields the transition leaves as they are. -/

/-- No clause speaks of the time, RES, FAULT or the schedule. -/
theorem inv_of_bus_unchanged {s : State} (h : Inv s) (sec : Fin 60) (min : Fin 100) (tickPending : Bool) (res : Half)
    (resWritten : Bool) (fault : Option Fault) (script : List Turn) (draws : Nat) :
    Inv { s with sec, min, tickPending, res, resWritten, fault, script, draws } :=
  { h with }

/-- SRStart while the serializer is idle (41_shift_register_bus R111), by COMMIT or for the current position. -/
theorem inv_srStart {s : State} (h : Inv s) (hs : s.srPhase = .idle) {m : MuxPhase} {seg en : Byte}
    (hm : m = .idle ∨ m = .send ∧ currentFrame s = (seg, en)) : Inv ((srStart seg en s).withMuxPhase m) :=
  { h with
    clk_phase := by simpa [hs] using h.clk_phase
    latch_low := fun _ hp => absurd rfl hp
    cnt_start := fun _ => rfl
    cnt_range := nofun
    cnt_end := nofun
    data_bit := nofun
    chain_bits := chain_bits_of_none_sent rfl
    mux_alone := by rcases hm with rfl | ⟨rfl, _⟩ <;> nofun
    send_frame := by
      rcases hm with rfl | ⟨rfl, hframe⟩
      · nofun
      · have hword : frameWord seg en = frameWord (currentFrame s).1 (currentFrame s).2 := by rw [hframe]
        exact fun _ _ => hword
    shown_frame := by rcases hm with rfl | ⟨rfl, _⟩ <;> nofun }

/-- The multiplexer goes to IDLE or LOAD while the serializer is idle, with any position and arguments
(42_display_multiplexer R131, R135). -/
theorem inv_between_frames {s : State} (h : Inv s) (hs : s.srPhase = .idle) {muxPhase : MuxPhase}
    (hm : muxPhase = .idle ∨ muxPhase = .load) (muxPos : BitVec 2) (muxDig : Vector (Fin 10) 4) (muxUd : BitVec 1)
    (muxDpi : BitVec 2) : Inv { s with muxPhase, muxPos, muxDig, muxUd, muxDpi } :=
  { h with
    mux_alone := fun _ => hs
    send_frame := fun _ hp => absurd hs hp
    shown_frame := by rcases hm with rfl | rfl <;> nofun }

theorem inv_muxSent {s : State} (h : Inv s) (hm : s.muxPhase = .send) (hs : s.srPhase = .idle) :
    Inv (s.withMuxPhase .dwell) :=
  { h with
    mux_alone := fun _ => hs
    send_frame := nofun
    shown_frame := fun _ => h.shown_frame (.inl ⟨hm, hs⟩) }

/-! Transitions of the serializer (41_shift_register_bus R112 to R116). -/

/-- While the serializer is at work the multiplexer does not dwell. -/
theorem muxPhase_ne_dwell {s : State} (h : Inv s) (hs : s.srPhase ≠ .idle) : s.muxPhase ≠ .dwell :=
  fun hm => hs (h.mux_alone (.inr hm))

theorem inv_srLatchLo {s : State} (h : Inv s) (hp : s.srPhase = .latchLo) :
    Inv ((driveLatch false s).withSrPhase .data) := by
  have hs : s.srPhase ≠ .idle := by simp [hp]
  have hcnt : s.srCnt.toNat = 0 := congrArg BitVec.toNat (h.cnt_start hp)
  exact { h with
    clk_phase := by simpa [hp] using h.clk_phase
    latch_low := fun _ _ => rfl
    cnt_start := nofun
    cnt_range := fun _ => hcnt.trans_lt (by decide)
    cnt_end := nofun
    data_bit := nofun
    chain_bits := chain_bits_of_none_sent hcnt
    mux_alone := fun hm => absurd (h.mux_alone hm) hs
    send_frame := fun hm _ => h.send_frame hm hs
    shown_frame := by simp [muxPhase_ne_dwell h hs] }

theorem inv_srData {s : State} (h : Inv s) (hp : s.srPhase = .data) :
    Inv ((driveData (frameBit s.srFrame s.srCnt) s).withSrPhase .clkHi) := by
  have hs : s.srPhase ≠ .idle := by simp [hp]
  exact { h with
    clk_phase := by simpa [hp] using h.clk_phase
    latch_low := fun _ _ => h.latch_low hs (by simp [hp])
    cnt_start := nofun
    cnt_range := fun _ => h.cnt_range (.inl hp)
    cnt_end := nofun
    data_bit := fun _ => rfl
    chain_bits := by simpa [bitsSent, hp] using h.chain_bits
    mux_alone := fun hm => absurd (h.mux_alone hm) hs
    send_frame := fun hm _ => h.send_frame hm hs
    shown_frame := by simp [muxPhase_ne_dwell h hs] }

theorem inv_srClkHi {s : State} (h : Inv s) (hp : s.srPhase = .clkHi) :
    Inv ((driveClk true s).withSrPhase .clkLo) := by
  have hs : s.srPhase ≠ .idle := by simp [hp]
  have hclk : s.clk = false := by simpa [hp] using h.clk_phase
  have hcnt : s.srCnt.toNat < 16 := h.cnt_range (.inr (.inl hp))
  have hdata : s.data = s.srFrame.getLsbD (15 - s.srCnt.toNat) :=
    (h.data_bit (.inl hp)).trans (frameBit_of_lt _ hcnt)
  have hbits : s.devChain.toNat % 2 ^ s.srCnt.toNat = s.srFrame.toNat / 2 ^ (16 - s.srCnt.toNat) := by
    simpa [bitsSent, hp] using h.chain_bits
  rw [driveClk_true, hclk]
  exact { h with
    clk_phase := by simp
    latch_low := fun _ _ => h.latch_low hs (by simp [hp])
    cnt_start := nofun
    cnt_range := fun _ => hcnt
    cnt_end := nofun
    data_bit := fun _ => h.data_bit (.inl hp)
    chain_bits := hdata ▸ shiftIn_chain_bits hcnt hbits
    mux_alone := fun hm => absurd (h.mux_alone hm) hs
    send_frame := fun hm _ => h.send_frame hm hs
    shown_frame := by simp [muxPhase_ne_dwell h hs] }

theorem inv_srClkLo {s : State} (h : Inv s) (hp : s.srPhase = .clkLo) :
    Inv (((driveClk false s).withSrCnt (s.srCnt + 1#5)).withSrPhase
      (if s.srCnt + 1#5 = 16#5 then .latchHi else .data)) := by
  have hs : s.srPhase ≠ .idle := by simp [hp]
  have hcnt : s.srCnt.toNat < 16 := h.cnt_range (.inr (.inr hp))
  have hnext : (s.srCnt + 1#5).toNat = s.srCnt.toNat + 1 := by bv_omega
  have hbits : s.devChain.toNat % 2 ^ (s.srCnt + 1#5).toNat = s.srFrame.toNat / 2 ^ (16 - (s.srCnt + 1#5).toNat) := by
    simpa [bitsSent, hp, hnext] using h.chain_bits
  rw [driveClk_false]
  split
  next hlast =>
    rw [hlast] at hbits
    exact { h with
      clk_phase := by simp
      latch_low := fun _ _ => h.latch_low hs (by simp [hp])
      cnt_start := nofun
      cnt_range := nofun
      cnt_end := fun _ => hlast
      data_bit := nofun
      chain_bits := hbits
      mux_alone := fun hm => absurd (h.mux_alone hm) hs
      send_frame := fun hm _ => h.send_frame hm hs
      shown_frame := by simp [muxPhase_ne_dwell h hs] }
  next hmore =>
    have hlt : (s.srCnt + 1#5).toNat < 16 := by bv_omega
    exact { h with
      clk_phase := by simp
      latch_low := fun _ _ => h.latch_low hs (by simp [hp])
      cnt_start := nofun
      cnt_range := fun _ => hlt
      cnt_end := nofun
      data_bit := nofun
      chain_bits := hbits
      mux_alone := fun hm => absurd (h.mux_alone hm) hs
      send_frame := fun hm _ => h.send_frame hm hs
      shown_frame := by simp [muxPhase_ne_dwell h hs] }

theorem inv_srLatchHi {s : State} (h : Inv s) (hp : s.srPhase = .latchHi) :
    Inv ((driveLatch true s).withSrPhase .idle) := by
  have hs : s.srPhase ≠ .idle := by simp [hp]
  have hrise : s.latch = false := h.latch_low hs (by simp [hp])
  have hsend : s.muxPhase = .send → (highByte s.devChain, lowByte s.devChain) = currentFrame s := fun hm => by
    rw [devChain_of_latchHi h hp, h.send_frame hm hs, highByte_frameWord, lowByte_frameWord]
  have hdwell : s.muxPhase ≠ .dwell := muxPhase_ne_dwell h hs
  rw [driveLatch_true, hrise, if_neg Bool.false_ne_true]
  exact { h with
    clk_phase := by simpa [hp] using h.clk_phase
    latch_low := fun hi => absurd rfl hi
    cnt_start := nofun
    cnt_range := nofun
    cnt_end := nofun
    data_bit := nofun
    chain_bits := chain_bits_of_none_sent rfl
    outputs_last := by simp [eq_comm]
    mux_alone := fun _ => rfl
    send_frame := fun _ hi => absurd rfl hi
    shown_frame := by
      rintro (⟨hm, _⟩ | hm)
      · exact List.getLast?_concat.trans (congrArg some (hsend hm))
      · exact absurd hm hdwell }

/-! Every step. -/

theorem inv_of_effect {turn : Turn} {s t : State} (he : Effect turn s t) (h : Inv s) : Inv t := by
  cases he with
  | read | passed => exact h
  | faulted | enc | period | clear | readt | tick => exact inv_of_bus_unchanged h _ _ _ _ _ _ _ _
  | commit w s seg en hw hb =>
    obtain ⟨hm, hs⟩ := (busy_eq_false s).mp hb
    exact inv_srStart h hs (.inl hm)
  | render w s ud dpi value u hw hb hu =>
    exact inv_between_frames h ((busy_eq_false s).mp hb).2 (.inr rfl) _ _ _ _
  | muxLoad s hm hs => exact inv_srStart h hs (.inr ⟨rfl, rfl⟩)
  | muxSent s hm hs => exact inv_muxSent h hm hs
  | dwellLast s hm hp => exact inv_between_frames h (h.mux_alone (.inr hm)) (.inl rfl) _ _ _ _
  | dwellNext s hm hp => exact inv_between_frames h (h.mux_alone (.inr hm)) (.inr rfl) _ _ _ _
  | srLatchLo s hp => exact inv_srLatchLo h hp
  | srData s hp => exact inv_srData h hp
  | srClkHi s hp => exact inv_srClkHi h hp
  | srClkLo s hp => exact inv_srClkLo h hp
  | srLatchHi s hp => exact inv_srLatchHi h hp

/-- Settles O52: a step is a transition on the state with its schedule advanced, and the invariant does not read the
schedule. -/
theorem stepKeepsInvariant : Obligations.StepKeepsInvariant := by
  unfold Obligations.StepKeepsInvariant
  intro s t h hst
  obtain ⟨_, l, n, he⟩ := step_effect hst
  exact inv_of_effect he (inv_of_bus_unchanged h _ _ _ _ _ _ l n)

end Sys2Proof.Proofs
end

section
/-! PROOFS. The end of BUSY under weak fairness (70_reset_and_hazards R213): each enabled step of the display takes one
off the steps left, every other turn of a silent HOST leaves the foreground's view, and while BUSY some step is
enabled. -/

namespace Sys2Proof.Proofs

open Sys2Proof Sys2Proof.Machine

/-! The steps left. -/

/-- The serializer's steps from phase `p` to the end of the transfer (41_shift_register_bus R112 to R116): three for every
further bit, until SR_CNT has counted to 15 modulo 32 (log entry 14). -/
def transferStepsLeft (p : SrPhase) (cnt : BitVec 5) : Nat :=
  match p with
  | .idle => 0
  | .latchLo => 3 * (15#5 - cnt).toNat + 5
  | .data => 3 * (15#5 - cnt).toNat + 4
  | .clkHi => 3 * (15#5 - cnt).toNat + 3
  | .clkLo => 3 * (15#5 - cnt).toNat + 2
  | .latchHi => 1

/-- The steps from phase `m` at position `pos` to the end of the RENDER, but for those of a transfer already started: a
position takes 53 (42_display_multiplexer R139). -/
def renderStepsLeft (m : MuxPhase) (pos : BitVec 2) : Nat :=
  match m with
  | .idle => 0
  | .load => 53 * (3#2 - pos).toNat + 53
  | .send => 53 * (3#2 - pos).toNat + 2
  | .dwell => 53 * (3#2 - pos).toNat + 1

/-- The steps of the display until BUSY ends. -/
def stepsLeft (s : State) : Nat :=
  transferStepsLeft s.srPhase s.srCnt + renderStepsLeft s.muxPhase s.muxPos

theorem transferStepsLeft_clkLo (cnt : BitVec 5) :
    transferStepsLeft .clkLo cnt =
      transferStepsLeft (if cnt + 1#5 = 16#5 then .latchHi else .data) (cnt + 1#5) + 1 := by
  split
  next hlast =>
    obtain rfl : cnt = 15#5 := by bv_omega
    rfl
  next hlast =>
    have hnext : (15#5 - cnt).toNat = (15#5 - (cnt + 1#5)).toNat + 1 := by bv_omega
    simp only [transferStepsLeft, hnext]
    omega

theorem renderStepsLeft_dwell_of_not_last {pos : BitVec 2} (h : pos ≠ 3#2) :
    renderStepsLeft .dwell pos = renderStepsLeft .load (pos + 1#2) + 1 := by
  have hnext : (3#2 - pos).toNat = (3#2 - (pos + 1#2)).toNat + 1 := by bv_omega
  simp only [renderStepsLeft, hnext]
  omega

/-- A step of the serializer leaves the RENDER's count. -/
theorem stepsLeft_of_transfer_step {s t : State} (hm : t.muxPhase = s.muxPhase) (hpos : t.muxPos = s.muxPos)
    (h : transferStepsLeft s.srPhase s.srCnt = transferStepsLeft t.srPhase t.srCnt + 1) :
    stepsLeft s = stepsLeft t + 1 := by
  rw [stepsLeft, stepsLeft, hm, hpos, h, Nat.add_right_comm]

/-- A step of the multiplexer that starts no transfer leaves the transfer's count. -/
theorem stepsLeft_of_render_step {s t : State} (hs : t.srPhase = s.srPhase) (hcnt : t.srCnt = s.srCnt)
    (h : renderStepsLeft s.muxPhase s.muxPos = renderStepsLeft t.muxPhase t.muxPos + 1) :
    stepsLeft s = stepsLeft t + 1 := by
  rw [stepsLeft, stepsLeft, hs, hcnt, h, Nat.add_assoc]

/-- MUX_LOAD starts the transfer's 50 steps (41_shift_register_bus R119 (a)). -/
theorem stepsLeft_of_muxLoad {s t : State} (h : stepMuxLoad s = some t) : stepsLeft s = stepsLeft t + 1 := by
  obtain ⟨hm, hs, rfl⟩ := stepMuxLoad_some h
  change _ = transferStepsLeft .latchLo 0#5 + renderStepsLeft .send s.muxPos + 1
  have hstart : transferStepsLeft .latchLo 0#5 = 50 := rfl
  rw [stepsLeft, hm, hs, hstart]
  simp only [transferStepsLeft, renderStepsLeft]
  omega

/-- Every enabled step but TICK takes one off. -/
theorem stepsLeft_of_runInternal {k : Internal} {s t : State} (hk : k ≠ .tick) (h : runInternal k s = some t) :
    stepsLeft s = stepsLeft t + 1 := by
  cases k with
  | tick => exact absurd rfl hk
  | muxLoad => exact stepsLeft_of_muxLoad h
  | muxSent =>
    obtain ⟨hm, _, rfl⟩ := stepMuxSent_some h
    exact stepsLeft_of_render_step rfl rfl (by simp [hm, renderStepsLeft])
  | dwellDone =>
    obtain ⟨hm, ⟨hp, rfl⟩ | ⟨hp, rfl⟩⟩ := stepDwellDone_some h
    · exact stepsLeft_of_render_step rfl rfl (by simp [hm, hp, renderStepsLeft])
    · exact stepsLeft_of_render_step rfl rfl (hm ▸ renderStepsLeft_dwell_of_not_last hp)
  | srLatchLo =>
    obtain ⟨hp, rfl⟩ := stepSrLatchLo_some h
    exact stepsLeft_of_transfer_step (by simp) (by simp) (by simp [hp, transferStepsLeft])
  | srData =>
    obtain ⟨hp, rfl⟩ := stepSrData_some h
    exact stepsLeft_of_transfer_step (by simp) (by simp) (by simp [hp, transferStepsLeft])
  | srClkHi =>
    obtain ⟨hp, rfl⟩ := stepSrClkHi_some h
    exact stepsLeft_of_transfer_step (by simp) (by simp) (by simp [hp, transferStepsLeft])
  | srClkLo =>
    obtain ⟨hp, rfl⟩ := stepSrClkLo_some h
    exact stepsLeft_of_transfer_step rfl rfl (hp ▸ transferStepsLeft_clkLo s.srCnt)
  | srLatchHi =>
    obtain ⟨hp, rfl⟩ := stepSrLatchHi_some h
    exact stepsLeft_of_transfer_step (by simp) (by simp) (by simp [hp, transferStepsLeft])

/-- While BUSY some step of the display is enabled. -/
theorem exists_enabled_of_busy {s : State} (hb : busy s = true) :
    ∃ k, k ≠ .tick ∧ (runInternal k s).isSome = true := by
  cases hs : s.srPhase with
  | latchLo => exact ⟨.srLatchLo, by decide, by simp [runInternal, stepSrLatchLo, hs]⟩
  | data => exact ⟨.srData, by decide, by simp [runInternal, stepSrData, hs]⟩
  | clkHi => exact ⟨.srClkHi, by decide, by simp [runInternal, stepSrClkHi, hs]⟩
  | clkLo => exact ⟨.srClkLo, by decide, by simp [runInternal, stepSrClkLo, hs]⟩
  | latchHi => exact ⟨.srLatchHi, by decide, by simp [runInternal, stepSrLatchHi, hs]⟩
  | idle =>
    cases hm : s.muxPhase with
    | load => exact ⟨.muxLoad, by decide, by simp [runInternal, stepMuxLoad, hs, hm]⟩
    | send => exact ⟨.muxSent, by decide, by simp [runInternal, stepMuxSent, hs, hm]⟩
    | dwell => exact ⟨.dwellDone, by decide, by simp [runInternal, stepDwellDone, hm]⟩
    | idle => simp [busy, hs, hm] at hb

/-! One turn of a silent HOST. -/

/-- The HOST is silent and the timer port carries only PERIOD (R213). -/
def Silent (turn : Turn) : Prop :=
  (∃ k, turn = .internal k) ∨ turn = .timerPort periodWord

theorem followTurn_of_takeTurn {turn : Turn} {s u : State} (hr : Running s)
    (h : takeTurn turn (s.withSchedule [] s.draws) = .next u) : followTurn turn s = u := by
  have hstep : step (s.withSchedule [turn] s.draws) = .next u :=
    (step_scripted (s.withSchedule [turn] s.draws) turn [] hr rfl).trans h
  rw [followTurn, hstep]

theorem followTurn_internal {s : State} (hr : Running s) (k : Internal) :
    followTurn (.internal k) s = (afterInternal s k).withSchedule [] s.draws := by
  rw [followTurn_of_takeTurn hr (takeTurn_internal k _), afterInternal_withSchedule]

theorem foreground_followTurn_clock {turn : Turn} {s : State} (hr : Running s) (hc : turn.isClock = true) :
    foreground (followTurn turn s) = foreground s := by
  obtain ⟨u, hu, hview⟩ := takeTurn_clock hc (s.withSchedule [] s.draws)
  rw [followTurn_of_takeTurn hr hu, hview, foreground_withSchedule]

theorem stepsLeft_followTurn_of_enabled {k : Internal} {s : State} (hr : Running s) (hk : k ≠ .tick)
    (h : (runInternal k s).isSome = true) : stepsLeft s = stepsLeft (followTurn (.internal k) s) + 1 := by
  obtain ⟨t, ht⟩ := Option.isSome_iff_exists.mp h
  rw [followTurn_internal hr, afterInternal, ht]
  exact stepsLeft_of_runInternal (t := t) hk ht

theorem running_followTurn {turn : Turn} {s : State} (hr : Running s) (ht : Silent turn) :
    Running (followTurn turn s) := by
  rcases ht with ⟨k, rfl⟩ | rfl
  · rw [followTurn_internal hr]
    exact running_afterInternal hr k
  · exact running_of_foreground_eq (foreground_followTurn_clock hr rfl).symm hr

/-- A silent turn takes a step off, or it is a clock's or passes, which the foreground does not see. -/
theorem followTurn_silent {turn : Turn} {s : State} (hr : Running s) (ht : Silent turn) :
    foreground (followTurn turn s) = foreground s ∨ stepsLeft s = stepsLeft (followTurn turn s) + 1 := by
  rcases ht with ⟨k, rfl⟩ | rfl
  · by_cases hk : k = .tick
    · exact .inl (foreground_followTurn_clock hr (by rw [hk]; rfl))
    · cases hrun : runInternal k s with
      | none => exact .inl (by rw [followTurn_internal hr, afterInternal, hrun]; rfl)
      | some t => exact .inr (stepsLeft_followTurn_of_enabled hr hk (by rw [hrun]; rfl))
  · exact .inl (foreground_followTurn_clock hr rfl)

/-! The whole run. -/

/-- The steps left and the steps enabled are seen in the view. -/
theorem stepsLeft_eq_of_foreground_eq {s u : State} (h : foreground s = foreground u) : stepsLeft s = stepsLeft u :=
  (congrArg stepsLeft h : stepsLeft (foreground s) = stepsLeft (foreground u))

theorem isSome_runInternal_of_foreground_eq {k : Internal} {s u : State} (hk : k ≠ .tick)
    (h : foreground s = foreground u) : (runInternal k s).isSome = (runInternal k u).isSome := by
  rw [← Option.isSome_map (f := foreground), ← runInternal_foreground hk, h, runInternal_foreground hk, Option.isSome_map]

section

variable {schedule : Nat → Turn} {s : State}

theorem running_runForever (hr : Running s) (hsilent : ∀ n, Silent (schedule n)) (n : Nat) :
    Running (runForever schedule s n) := by
  induction n with
  | zero => exact hr
  | succ n ih => exact running_followTurn ih (hsilent n)

/-- If the steps left never fall below those at `n`, the view stays that at `n`. -/
theorem foreground_runForever_of_no_progress (hr : Running s) (hsilent : ∀ n, Silent (schedule n)) {n : Nat}
    (hstuck : ∀ m, stepsLeft (runForever schedule s n) ≤ stepsLeft (runForever schedule s m)) {m : Nat} (hm : n ≤ m) :
    foreground (runForever schedule s m) = foreground (runForever schedule s n) := by
  induction m, hm using Nat.le_induction with
  | base => rfl
  | succ m _ ih =>
    rcases followTurn_silent (running_runForever hr hsilent m) (hsilent m) with hview | hfewer
    · exact hview.trans ih
    · have hle : _ ≤ stepsLeft (followTurn _ _) := hstuck (m + 1)
      have heq := stepsLeft_eq_of_foreground_eq ih
      omega

/-- Where the steps left are fewest BUSY has ended: otherwise an enabled step would stay enabled, and fairness would take
it. -/
theorem not_busy_of_fewest_stepsLeft (hr : Running s) (hfair : WeaklyFair schedule s)
    (hsilent : ∀ n, Silent (schedule n)) {n : Nat}
    (hfewest : ∀ m, stepsLeft (runForever schedule s n) ≤ stepsLeft (runForever schedule s m)) :
    busy (runForever schedule s n) = false := by
  by_contra hbusy
  obtain ⟨k, hk, henabled⟩ := exists_enabled_of_busy (Bool.of_not_eq_false hbusy)
  have hview (m : Nat) (hm : n ≤ m) := foreground_runForever_of_no_progress hr hsilent hfewest hm
  have hstays (m : Nat) (hm : n ≤ m) : (runInternal k (runForever schedule s m)).isSome = true :=
    (isSome_runInternal_of_foreground_eq hk (hview m hm)).trans henabled
  obtain ⟨m, hm, hturn⟩ := hfair.1 k n hstays
  have hfewer := stepsLeft_followTurn_of_enabled (running_runForever hr hsilent m) hk (hstays m hm)
  rw [← hturn] at hfewer
  have hle : _ ≤ stepsLeft (followTurn _ _) := hfewest (m + 1)
  have heq := stepsLeft_eq_of_foreground_eq (hview m hm)
  omega

end

/-- Settles O56: the run comes to a point where the steps left are fewest, and no turn of it faults. -/
theorem busyEndsUnderWeakFairness : Obligations.BusyEndsUnderWeakFairness := by
  unfold Obligations.BusyEndsUnderWeakFairness
  intro schedule s hr hfair hsilent
  have hfewest (m : Nat) := Function.argmin_le (fun n => stepsLeft (runForever schedule s n)) m
  exact ⟨_, not_busy_of_fewest_stepsLeft hr hfair hsilent hfewest, (running_runForever hr hsilent _).1⟩

end Sys2Proof.Proofs
end

section
/-! PROOFS. The words of 95_test_vectors: an accepted one is an encoding on its command's port, and each rejected one
has its own reason of 30_encoding R78. -/

namespace Sys2Proof.Proofs

open Sys2Proof Sys2Proof.Machine

/-- A command's word on the other port is ILLEGAL_CMD (30_encoding R72, R78). -/
theorem decode_encode_of_port_ne {p : Port} {i : Instr} (h : i.port ≠ p) :
    decode p (encode i) = .error (.illegalCmd (encode i)) := by
  simp only [decode, decodeWord_encode, if_neg h]

/-- A word that the case table rejects is rejected on either port, for the same reason (30_encoding R78). -/
theorem decode_of_decodeWord_error {w : Word} {e : DecodeFault} (h : decodeWord w = .error e) (p : Port) :
    decode p w = .error e := by
  simp only [decode, h]

/-- Settles O5: the accepted words are encodings, the rejected ones have OP 0, a reserved bit or the other port. -/
theorem sampleWordsDecode : Obligations.SampleWordsDecode := by
  unfold Obligations.SampleWordsDecode
  have hop : decodeWord 0x00000000#32 = .error (.illegalCmd 0x00000000#32) :=
    decodeWord_of_op_undefined (.inl (by decide))
  have hreserved : decodeWord 0x1000002A#32 = .error (.reservedNonzero 0x1000002A#32) :=
    (decodeWord_of_op_one (by decide)).trans (if_neg (by decide))
  exact ⟨decodeOfEncode (.enc 1#1 2#4), decodeOfEncode (.commit 0xA4#8 0x02#8),
    decodeOfEncode (.render 1#1 1#2 247#16), decodeOfEncode (.render 0#1 3#2 0#16), decodeOfEncode .period,
    decodeOfEncode .clear, decodeOfEncode .readt,
    decode_of_decodeWord_error hop .command, decode_of_decodeWord_error hreserved .command,
    decode_encode_of_port_ne (i := .period) (by decide), decode_encode_of_port_ne (i := .clear) (by decide)⟩

end Sys2Proof.Proofs
end
